-- ==== Sys2Proof/Word.lean ====
section
/-! DEFINITION. The word types of the block: 32-bit command, data and value words, arena bytes, binary32 bit patterns. -/

namespace Sys2Proof

/-- A 32-bit word: a command word, a data word or a returned value (R106, R140). -/
abbrev Word := BitVec 32

/-- A byte of the arena, of the host's payload or of the PCM port (R100, R101, R102). -/
abbrev Byte := BitVec 8

/-- A NUM value, held as its IEEE 754 binary32 bit pattern (R7, R11). -/
abbrev NUM := BitVec 32

/-- One stereo entry of the accumulator: the pair `(l, r)` of NUM values (R43). -/
structure Frame where
  /-- left channel -/
  l : NUM
  /-- right channel -/
  r : NUM
deriving DecidableEq, Repr

/-- The cleared accumulator entry `(+0.0, +0.0)` (R43). -/
abbrev Frame.zero : Frame := ⟨0, 0⟩

end Sys2Proof
end

