-- ==== Sys2Proof/Config.lean ====
section
/-! DEFINITION. The instance parameters of 00_scope.md R7, and the free values (constants without a body). -/

namespace Sys2Proof

/-- The mixing backend of an instance (R2, R7). -/
inductive Backend where
  /-- fixed-period engine -/
  | fp
  /-- variable-rate engine -/
  | vr
deriving DecidableEq, Repr

/-- The video standard of an instance (R7). -/
inductive Video where
  | pal
  | ntsc
deriving DecidableEq, Repr

/-- The quality mode of the variable-rate engine (R7, D5). -/
inductive Quality where
  | fast
  | accurate
deriving DecidableEq, Repr

/-- The drain result for x < −1.0, of one backend (R7, R504, D28). -/
inductive ClipNeg where
  /-- −32768 -/
  | full
  /-- −32767 -/
  | strict
deriving DecidableEq, Repr

/-- The parameters of one instance, fixed for its life (R7). Every one but the constants of
`Machine/Params.lean` is OPEN in the spec, so every statement about states quantifies over them. -/
structure Config where
  /-- BACKEND -/
  backend : Backend
  /-- CHUNK_N: capacity of the accumulator in frames -/
  chunkN : Nat
  /-- NV: number of variable-rate voices -/
  nv : Nat
  /-- ARENA_CAP: capacity of the arena in bytes -/
  arenaCap : Nat
  /-- VIDEO -/
  video : Video
  /-- VR_QUALITY -/
  quality : Quality
  /-- MASTER_FP -/
  masterFp : NUM
  /-- MASTER_VR -/
  masterVr : NUM
  /-- CLIP_NEG_FP -/
  clipNegFp : ClipNeg
  /-- CLIP_NEG_VR -/
  clipNegVr : ClipNeg
  /-- FILT_A1 -/
  filtA1 : NUM
  /-- FILT_A2 -/
  filtA2 : NUM
  /-- FILT_A3 -/
  filtA3 : NUM
deriving DecidableEq, Repr

/-- The parameters `State.reset` is built with. DESIGN CHOICE (log 1), unsafe: the spec leaves each of
these OPEN. The values are the defaults that 95_test_vectors.md assumes for its vectors. -/
def Config.sample : Config where
  backend := .fp
  chunkN := 64
  nv := 2
  arenaCap := 64
  video := .pal
  quality := .accurate
  masterFp := 0x3F800000#32
  masterVr := 0x3F800000#32
  clipNegFp := .full
  clipNegVr := .full
  filtA1 := 0x3EF8D4FE#32
  filtA2 := 0x3F6E5604#32
  filtA3 := 0x3F056042#32

/-- Free value: the sign and payload bits of a NaN that an operation makes from two operands (93 U10, log 5).
The first argument tells the operations apart. -/
opaque Config.freeNaN : Nat → NUM → NUM → NUM

/-- Free value: an accumulator channel after an ARENA_RANGE fault (93 U3, R605, log 6). The first argument
is the state's counter `freeCtr`, the second numbers the channel. -/
opaque Config.freeChannel : Nat → Nat → NUM

/-- Free value: the integer part of an infinity or a NaN, which the spec never asks for (log 13). -/
opaque Config.freeFloor : NUM → Int

/-- Free value: `faultAddr` after a variable-rate read at an offset below 0, for which R322 states no address (log 16). -/
opaque Config.freeFaultAddr : Int → Nat

end Sys2Proof
end

