-- ==== Sys2Proof/Machine/Num.lean ====
section
/-! DEFINITION. NUM arithmetic (00_scope.md R11): IEEE 754 binary32, each operation rounded once to nearest,
ties to even, subnormals kept, no fused operation, no exception flags (R607). A finite NUM is an integer count of
units of 2^−149, so every operation is exact integer arithmetic followed by one rounding. -/

namespace Sys2Proof.NUM

/-- The 8-bit exponent field. -/
def expField (x : NUM) : Nat := x.toNat / 2 ^ 23 % 256

/-- The 23-bit fraction field. -/
def fracField (x : NUM) : Nat := x.toNat % 2 ^ 23

/-- The sign bit. -/
def signBit (x : NUM) : Bool := 2 ^ 31 ≤ x.toNat

/-- A NaN: exponent field all ones, fraction not 0. -/
def isNaN (x : NUM) : Bool := x.expField == 255 && x.fracField != 0

/-- An infinity: exponent field all ones, fraction 0. -/
def isInf (x : NUM) : Bool := x.expField == 255 && x.fracField == 0

/-- A finite value: neither a NaN nor an infinity. -/
def isFinite (x : NUM) : Bool := x.expField != 255

/-- The magnitude in units of 2^−149. (An infinity counts as 2^277 units, above every finite value, which is
what the comparisons need.) -/
def units (x : NUM) : Nat :=
  if x.expField = 0 then x.fracField else (2 ^ 23 + x.fracField) * 2 ^ (x.expField - 1)

/-- The signed value in units of 2^−149. -/
def val (x : NUM) : Int := if x.signBit then -(x.units : Int) else x.units

/-- One unit of magnitude 1.0, in units of 2^−149. -/
def one149 : Nat := 2 ^ 149

/-- The pattern with a given sign and a given 31-bit magnitude pattern. -/
def ofSignMag (neg : Bool) (mag : Nat) : NUM := BitVec.ofNat 32 (if neg then 2 ^ 31 + mag else mag)

/-- An infinity of the given sign. -/
def inf (neg : Bool) : NUM := ofSignMag neg 0x7F800000

/-- `p / d` rounded to the nearest integer, ties to even. -/
def roundEven (p d : Nat) : Nat :=
  if 2 * (p % d) < d then p / d
  else if d < 2 * (p % d) then p / d + 1
  else p / d + p / d % 2

/-- The magnitude pattern nearest to `p / d` units of 2^−149, ties to even: the quotient is scaled down by the power
of two that leaves 24 significant bits, rounded once, and overflow gives the pattern of infinity. -/
def roundMag (p d : Nat) : Nat :=
  let k := (p / d).log2 - 23
  min (k * 2 ^ 23 + roundEven p (d * 2 ^ k)) 0x7F800000

/-- The NUM nearest to `± p / d` units of 2^−149. -/
def ofRat (neg : Bool) (p d : Nat) : NUM := ofSignMag neg (roundMag p d)

/-- A NaN that an operation makes: quiet, its sign and payload a free value (93 U10, log 5). -/
def makeNaN (op : Nat) (a b : NUM) : NUM := 0x7FC00000#32 ||| (Config.freeNaN op a b &&& 0x803FFFFF#32)

/-- `−a`: the sign bit inverted. -/
def neg (a : NUM) : NUM := a ^^^ 0x80000000#32

/-- `fadd(a, b)`. An exact sum of zero is −0.0 when both operands are negative, else +0.0. -/
def fadd (a b : NUM) : NUM :=
  if a.isNaN || b.isNaN then makeNaN 0 a b
  else if a.isInf then (if b.isInf && a.signBit != b.signBit then makeNaN 0 a b else a)
  else if b.isInf then b
  else
    let t := a.val + b.val
    if t = 0 then ofSignMag (a.signBit && b.signBit) 0 else ofRat (decide (t < 0)) t.natAbs 1

/-- `fsub(a, b)` is `fadd(a, −b)`. -/
def fsub (a b : NUM) : NUM := fadd a b.neg

/-- `fmul(a, b)`. -/
def fmul (a b : NUM) : NUM :=
  let sg := a.signBit != b.signBit
  if a.isNaN || b.isNaN then makeNaN 1 a b
  else if a.isInf || b.isInf then (if a.units = 0 || b.units = 0 then makeNaN 1 a b else inf sg)
  else ofRat sg (a.units * b.units) one149

/-- `fdiv(a, b)`. -/
def fdiv (a b : NUM) : NUM :=
  let sg := a.signBit != b.signBit
  if a.isNaN || b.isNaN then makeNaN 2 a b
  else if a.isInf then (if b.isInf then makeNaN 2 a b else inf sg)
  else if b.isInf then ofSignMag sg 0
  else if b.units = 0 then (if a.units = 0 then makeNaN 2 a b else inf sg)
  else ofRat sg (a.units * one149) b.units

/-- `toNUM(i)` of an integer (R11). -/
def toNUM (i : Int) : NUM := ofRat (decide (i < 0)) (i.natAbs * one149) 1

/-- IEEE `a < b`: false when either is a NaN (R11). -/
def flt (a b : NUM) : Bool := !a.isNaN && !b.isNaN && decide (a.val < b.val)

/-- IEEE `a ≥ b`: false when either is a NaN (R11). -/
def fge (a b : NUM) : Bool := !a.isNaN && !b.isNaN && decide (b.val ≤ a.val)

/-- `floor(a)` as an integer, for a finite `a`; for an infinity or a NaN, which no rule asks for, a free
value (log 13). -/
def floor (a : NUM) : Int := if a.isFinite then a.val / (one149 : Int) else Config.freeFloor a

/-- `roundHalfAway(y) = sign(y) × floor(|y| + 0.5)`, computed exactly on the binary32 value (R504). -/
def roundHalfAway (y : NUM) : Int :=
  let m : Nat := (2 * y.units + one149) / (2 * one149)
  if y.signBit then -(m : Int) else m

/-- 1.0 -/
abbrev one : NUM := 0x3F800000#32
/-- 64.0 -/
abbrev c64 : NUM := 0x42800000#32
/-- 128.0 -/
abbrev c128 : NUM := 0x43000000#32
/-- 220.0 -/
abbrev c220 : NUM := 0x435C0000#32
/-- 255.0 -/
abbrev c255 : NUM := 0x437F0000#32
/-- 32767.0 -/
abbrev c32767 : NUM := 0x46FFFE00#32
/-- 65536.0 -/
abbrev c65536 : NUM := 0x47800000#32

/-- The sample value of an arena byte, `fdiv(toNUM(sext_8(b)), 128.0)` (R15). -/
def ofSample (b : Byte) : NUM := fdiv (toNUM b.toInt) c128

end Sys2Proof.NUM
end

