-- ==== Sys2Proof/Machine/Params.lean ====
section
/-! DEFINITION. The constants of R7 and R8, and what follows from an instance's parameters (R7, R59). -/

namespace Sys2Proof

/-- FP_VOICES, the number of fixed-period voices (R7, R49). -/
def fpVoices : Nat := 4

/-- XFADE_LEN, the crossfade length in output samples (R7). -/
def xfadeLen : Nat := 220

/-- FP_TRIGGER_DELAY, in output samples (R7). -/
def fpTriggerDelay : Nat := 2

/-- FP_MIN_PERIOD: periods at or below it are skipped (R7, R213). -/
def fpMinPeriod : Nat := 60

/-- TEMPO_BASE, the numerator of the tempo formula (R7). -/
def tempoBase : Nat := 110250

/-- The most bytes one output sample fetches (R617). -/
def fpMaxFetches : Nat := 3

/-- CHIP_CLOCK (R7, R8). -/
def Config.chipClock (c : Config) : NUM :=
  match c.video with
  | .pal => 0x42A0DB5F#32
  | .ntsc => 0x42A25670#32

/-- FP_PRESET_SPT, the fixed-period samples per tick at INIT (R7). -/
def Config.fpPresetSpt (c : Config) : Nat :=
  match c.video with
  | .pal => 882
  | .ntsc => 735

/-- The reset value of `samplesPerTick` (R56, R702). -/
def Config.resetSpt (c : Config) : Nat :=
  match c.backend with
  | .fp => c.fpPresetSpt
  | .vr => 882

/-- The voice count of the instance's backend (R143, R602). -/
def Config.voiceCount (c : Config) : Nat :=
  match c.backend with
  | .fp => fpVoices
  | .vr => c.nv

/-- CLIP_NEG of the instance's backend (R504). -/
def Config.clipNeg (c : Config) : ClipNeg :=
  match c.backend with
  | .fp => c.clipNegFp
  | .vr => c.clipNegVr

/-- The value of a clip parameter (R7). -/
def ClipNeg.toInt : ClipNeg → Int
  | .full => -32768
  | .strict => -32767

/-- B1 = fsub(1.0, A1) (R59). -/
def Config.filtB1 (c : Config) : NUM := NUM.fsub NUM.one c.filtA1
/-- B2 = fsub(1.0, A2) (R59). -/
def Config.filtB2 (c : Config) : NUM := NUM.fsub NUM.one c.filtA2
/-- B3 = fsub(1.0, A3) (R59). -/
def Config.filtB3 (c : Config) : NUM := NUM.fsub NUM.one c.filtA3

/-- The ranges R7 (and D43: a finite master gain) give the parameters. -/
def Config.valid (c : Config) : Bool :=
  decide (1 ≤ c.chunkN) && decide (1 ≤ c.nv) && decide (1 ≤ c.arenaCap) && decide (c.arenaCap ≤ 2 ^ 32 - 1) &&
    c.masterFp.isFinite && c.masterVr.isFinite

end Sys2Proof
end

