-- ==== Sys2Proof/Syntax.lean ====
section
/-! DEFINITION. The commands: one constructor per row of spec/opcode_table.json (R146), with the `VOICE` field of a
voice command and the `DATA` word as they arrive. What a data word means is its operand kind (R141), read by the
command's meaning, because a bad operand is an answer of the block (BAD_VALUE), not a decode failure (R143, R603). -/

namespace Sys2Proof

/-- The 40 commands (R146). -/
inductive Instr where
  /-- `reset`, OP 0x01, kind ANY (R700) -/
  | reset (data : Word)
  /-- `init`, OP 0x02, kind ZERO (R450) -/
  | init (data : Word)
  /-- `render`, OP 0x03, kind U32 (R451) -/
  | render (data : Word)
  /-- `tickdone`, OP 0x04, kind BOOL (R456) -/
  | tickdone (data : Word)
  /-- `drain`, OP 0x05, kind U32 (R501) -/
  | drain (data : Word)
  /-- `setsink`, OP 0x06, kind U32 (R500) -/
  | setsink (data : Word)
  /-- `store`, OP 0x07, kind U32 (R550) -/
  | store (data : Word)
  /-- `settempo`, OP 0x08, kind RANGE(1,65535) (R458) -/
  | settempo (data : Word)
  /-- `setspeed`, OP 0x09, kind RANGE(0,255) (R459) -/
  | setspeed (data : Word)
  /-- `setloop`, OP 0x0A, kind BOOL (R460) -/
  | setloop (data : Word)
  /-- `setled`, OP 0x0B, kind LED (R400) -/
  | setled (data : Word)
  /-- `status`, OP 0x0C, kind ZERO (R461) -/
  | status (data : Word)
  /-- `read`, OP 0x0D, kind RANGE(0,11) (R462) -/
  | read (data : Word)
  /-- `fp.enable`, OP 0x10, kind BOOL (R200) -/
  | fpEnable (voice : BitVec 8) (data : Word)
  /-- `fp.period`, OP 0x11, kind CLAMP(0,65535) (R201) -/
  | fpPeriod (voice : BitVec 8) (data : Word)
  /-- `fp.volume`, OP 0x12, kind CLAMP(0,64) (R202) -/
  | fpVolume (voice : BitVec 8) (data : Word)
  /-- `fp.pointer`, OP 0x13, kind U32 (R203) -/
  | fpPointer (voice : BitVec 8) (data : Word)
  /-- `fp.length`, OP 0x14, kind U32 (R204) -/
  | fpLength (voice : BitVec 8) (data : Word)
  /-- `fp.looppointer`, OP 0x15, kind U32 (R205) -/
  | fpLoopPointer (voice : BitVec 8) (data : Word)
  /-- `fp.looplength`, OP 0x16, kind U32 (R206) -/
  | fpLoopLength (voice : BitVec 8) (data : Word)
  /-- `fp.mute`, OP 0x17, kind BOOL (R207) -/
  | fpMute (voice : BitVec 8) (data : Word)
  /-- `fp.panning`, OP 0x18, kind F32 (R208) -/
  | fpPanning (voice : BitVec 8) (data : Word)
  /-- `vr.enable`, OP 0x20, kind BOOL (R300) -/
  | vrEnable (voice : BitVec 8) (data : Word)
  /-- `vr.speed`, OP 0x21, kind F32 in [0,65536) (R301) -/
  | vrSpeed (voice : BitVec 8) (data : Word)
  /-- `vr.direction`, OP 0x22, kind DIR (R302) -/
  | vrDirection (voice : BitVec 8) (data : Word)
  /-- `vr.fraction`, OP 0x23, kind F32 in [0,1) (R303) -/
  | vrFraction (voice : BitVec 8) (data : Word)
  /-- `vr.volume`, OP 0x24, kind CLAMP(0,64) (R304) -/
  | vrVolume (voice : BitVec 8) (data : Word)
  /-- `vr.panning`, OP 0x25, kind CLAMP(0,255) (R305) -/
  | vrPanning (voice : BitVec 8) (data : Word)
  /-- `vr.pointer`, OP 0x26, kind U32 (R306) -/
  | vrPointer (voice : BitVec 8) (data : Word)
  /-- `vr.length`, OP 0x27, kind U32 (R307) -/
  | vrLength (voice : BitVec 8) (data : Word)
  /-- `vr.loopstart`, OP 0x28, kind U32 (R308) -/
  | vrLoopStart (voice : BitVec 8) (data : Word)
  /-- `vr.looplength`, OP 0x29, kind U32 (R309) -/
  | vrLoopLength (voice : BitVec 8) (data : Word)
  /-- `vr.loopmode`, OP 0x2A, kind RANGE(0,2) (R310) -/
  | vrLoopMode (voice : BitVec 8) (data : Word)
  /-- `vr.mute`, OP 0x2B, kind BOOL (R311) -/
  | vrMute (voice : BitVec 8) (data : Word)
  /-- `vr.nbase`, OP 0x30, kind U32 (R312) -/
  | vrNextBase (voice : BitVec 8) (data : Word)
  /-- `vr.nlength`, OP 0x31, kind U32 (R313) -/
  | vrNextLength (voice : BitVec 8) (data : Word)
  /-- `vr.nloopstart`, OP 0x32, kind U32 (R314) -/
  | vrNextLoopStart (voice : BitVec 8) (data : Word)
  /-- `vr.nlooplength`, OP 0x33, kind U32 (R315) -/
  | vrNextLoopLength (voice : BitVec 8) (data : Word)
  /-- `vr.nloopmode`, OP 0x34, kind RANGE(0,2) (R316) -/
  | vrNextLoopMode (voice : BitVec 8) (data : Word)
  /-- `vr.trigger`, OP 0x35, kind U32 (R317) -/
  | vrTrigger (voice : BitVec 8) (data : Word)
deriving DecidableEq, Repr

end Sys2Proof
end

