-- ==== Sys2Proof/Machine/Operands.lean ====
section
/-! DEFINITION. The operand kinds of R141, R142 and R148: how a data word is read, and which words are legal (`none` is
BAD_VALUE, R603). Every kind of the opcode table is here. -/

namespace Sys2Proof

/-- The loop modes of a stream (R53). -/
inductive LoopMode where
  /-- NONE = 0 -/
  | noLoop
  /-- FORWARD = 1 -/
  | forward
  /-- PINGPONG = 2 -/
  | pingpong
deriving DecidableEq, Repr

/-- The directions of travel of a stream (R53). -/
inductive Direction where
  /-- −1 -/
  | backward
  /-- 0 -/
  | still
  /-- +1 -/
  | ahead
deriving DecidableEq, Repr

/-- The number a direction stands for (R53). -/
def Direction.toInt : Direction → Int
  | .backward => -1
  | .still => 0
  | .ahead => 1

namespace Machine

/-- Kind `U32`: `zext_32(DATA)`, all words legal. -/
def opU32 (d : Word) : Nat := d.toNat

/-- Kind `CLAMP(lo,hi)`: `clamp(sext_32(DATA), lo, hi)`, all words legal (R10, D13). Every `lo` of the table is 0. -/
def opClamp (lo hi : Nat) (d : Word) : Nat := (max (lo : Int) (min d.toInt hi)).toNat

/-- Kind `RANGE(lo,hi)`: `zext_32(DATA)`, legal from `lo` to `hi`. -/
def opRange (lo hi : Nat) (d : Word) : Option Nat :=
  if lo ≤ d.toNat ∧ d.toNat ≤ hi then some d.toNat else none

/-- Kind `BOOL`: 1 is true, 0 is false, nothing else is legal (D45). -/
def opBool (d : Word) : Option Bool :=
  if d = 1#32 then some true else if d = 0#32 then some false else none

/-- Kind `DIR`: `sext_32(DATA)`, one of −1, 0, +1. -/
def opDir (d : Word) : Option Direction :=
  if d = 0xFFFFFFFF#32 then some .backward
  else if d = 0#32 then some .still
  else if d = 1#32 then some .ahead
  else none

/-- Kind `F32`: the binary32 value with this bit pattern, finite (R142). A negative zero is kept. -/
def opF32 (d : Word) : Option NUM := if NUM.isFinite d then some d else none

/-- Kind `F32 in [lo,hi)`: a finite value with `lo ≤ x < hi` as numbers, so −0.0 passes for `lo = 0.0`. -/
def opF32Range (lo hi : NUM) (d : Word) : Option NUM :=
  if NUM.isFinite d && NUM.fge d lo && NUM.flt d hi then some d else none

/-- The operand of `vr.speed`: F32 in [0, 65536) (R301). -/
def opSpeed (d : Word) : Option NUM := opF32Range 0#32 NUM.c65536 d

/-- The operand of `vr.fraction`: F32 in [0, 1) (R303). -/
def opFraction (d : Word) : Option NUM := opF32Range 0#32 NUM.one d

/-- The operand of the loop-mode commands: RANGE(0,2), read as a loop mode (R310, R316). -/
def opLoopMode (d : Word) : Option LoopMode :=
  if d = 0#32 then some .noLoop
  else if d = 1#32 then some .forward
  else if d = 2#32 then some .pingpong
  else none

/-- Kind `LED`: bit 0 is active, bit 1 is forced, the other bits must be 0 (R400). -/
def opLed (d : Word) : Option (Bool × Bool) :=
  if d.toNat < 4 then some (d.getLsbD 0, d.getLsbD 1) else none

/-- Kind `ZERO`: no operand, DATA must be 0. -/
def opZero (d : Word) : Option Unit := if d = 0#32 then some () else none

/-- Kind `ANY`: no operand, DATA is ignored. -/
def opAny (_ : Word) : Unit := ()

end Machine

open Machine

/-- The `VOICE` field of a voice command, `none` for a control command (R140, R146). -/
def Instr.voice? : Instr → Option (BitVec 8)
  | .reset _ => none
  | .init _ => none
  | .render _ => none
  | .tickdone _ => none
  | .drain _ => none
  | .setsink _ => none
  | .store _ => none
  | .settempo _ => none
  | .setspeed _ => none
  | .setloop _ => none
  | .setled _ => none
  | .status _ => none
  | .read _ => none
  | .fpEnable v _ => some v
  | .fpPeriod v _ => some v
  | .fpVolume v _ => some v
  | .fpPointer v _ => some v
  | .fpLength v _ => some v
  | .fpLoopPointer v _ => some v
  | .fpLoopLength v _ => some v
  | .fpMute v _ => some v
  | .fpPanning v _ => some v
  | .vrEnable v _ => some v
  | .vrSpeed v _ => some v
  | .vrDirection v _ => some v
  | .vrFraction v _ => some v
  | .vrVolume v _ => some v
  | .vrPanning v _ => some v
  | .vrPointer v _ => some v
  | .vrLength v _ => some v
  | .vrLoopStart v _ => some v
  | .vrLoopLength v _ => some v
  | .vrLoopMode v _ => some v
  | .vrMute v _ => some v
  | .vrNextBase v _ => some v
  | .vrNextLength v _ => some v
  | .vrNextLoopStart v _ => some v
  | .vrNextLoopLength v _ => some v
  | .vrNextLoopMode v _ => some v
  | .vrTrigger v _ => some v

/-- The backend whose command this is, `none` for a control command (R143 checks 4 and 5). -/
def Instr.backend? : Instr → Option Backend
  | .reset _ => none
  | .init _ => none
  | .render _ => none
  | .tickdone _ => none
  | .drain _ => none
  | .setsink _ => none
  | .store _ => none
  | .settempo _ => none
  | .setspeed _ => none
  | .setloop _ => none
  | .setled _ => none
  | .status _ => none
  | .read _ => none
  | .fpEnable _ _ => some .fp
  | .fpPeriod _ _ => some .fp
  | .fpVolume _ _ => some .fp
  | .fpPointer _ _ => some .fp
  | .fpLength _ _ => some .fp
  | .fpLoopPointer _ _ => some .fp
  | .fpLoopLength _ _ => some .fp
  | .fpMute _ _ => some .fp
  | .fpPanning _ _ => some .fp
  | .vrEnable _ _ => some .vr
  | .vrSpeed _ _ => some .vr
  | .vrDirection _ _ => some .vr
  | .vrFraction _ _ => some .vr
  | .vrVolume _ _ => some .vr
  | .vrPanning _ _ => some .vr
  | .vrPointer _ _ => some .vr
  | .vrLength _ _ => some .vr
  | .vrLoopStart _ _ => some .vr
  | .vrLoopLength _ _ => some .vr
  | .vrLoopMode _ _ => some .vr
  | .vrMute _ _ => some .vr
  | .vrNextBase _ _ => some .vr
  | .vrNextLength _ _ => some .vr
  | .vrNextLoopStart _ _ => some .vr
  | .vrNextLoopLength _ _ => some .vr
  | .vrNextLoopMode _ _ => some .vr
  | .vrTrigger _ _ => some .vr

/-- Whether the command exists on an instance of this backend (R143 checks 4 and 5). -/
def Instr.onBackend (b : Backend) (i : Instr) : Bool :=
  match i.backend? with
  | none => true
  | some b' => b' == b

/-- Whether the operand is a legal value of the command's kind (R141, R603). -/
def Instr.operandLegal : Instr → Bool
  | .reset _ => true
  | .init d => (opZero d).isSome
  | .render _ => true
  | .tickdone d => (opBool d).isSome
  | .drain _ => true
  | .setsink _ => true
  | .store _ => true
  | .settempo d => (opRange 1 65535 d).isSome
  | .setspeed d => (opRange 0 255 d).isSome
  | .setloop d => (opBool d).isSome
  | .setled d => (opLed d).isSome
  | .status d => (opZero d).isSome
  | .read d => (opRange 0 11 d).isSome
  | .fpEnable _ d => (opBool d).isSome
  | .fpPeriod _ _ => true
  | .fpVolume _ _ => true
  | .fpPointer _ _ => true
  | .fpLength _ _ => true
  | .fpLoopPointer _ _ => true
  | .fpLoopLength _ _ => true
  | .fpMute _ d => (opBool d).isSome
  | .fpPanning _ d => (opF32 d).isSome
  | .vrEnable _ d => (opBool d).isSome
  | .vrSpeed _ d => (opSpeed d).isSome
  | .vrDirection _ d => (opDir d).isSome
  | .vrFraction _ d => (opFraction d).isSome
  | .vrVolume _ _ => true
  | .vrPanning _ _ => true
  | .vrPointer _ _ => true
  | .vrLength _ _ => true
  | .vrLoopStart _ _ => true
  | .vrLoopLength _ _ => true
  | .vrLoopMode _ d => (opLoopMode d).isSome
  | .vrMute _ d => (opBool d).isSome
  | .vrNextBase _ _ => true
  | .vrNextLength _ _ => true
  | .vrNextLoopStart _ _ => true
  | .vrNextLoopLength _ _ => true
  | .vrNextLoopMode _ d => (opLoopMode d).isSome
  | .vrTrigger _ _ => true

end Sys2Proof
end

