-- ==== Sys2Proof/WellFormed.lean ====
section
/-! DEFINITION. Well-formed commands of an instance: the command exists on its backend (R143), its voice exists (R602) and its
operand is legal (R603). A command that is not well-formed is still executed: the block answers it with an error status. -/

namespace Sys2Proof

/-- The voice number is a voice of the instance; a control command names none (R602). -/
def Instr.voiceInRange (c : Config) (i : Instr) : Bool :=
  match i.voice? with
  | none => true
  | some v => decide (v.toNat < c.voiceCount)

/-- The three checks that R615 makes of the command itself: decode, voice, operand. -/
def Instr.wellFormed (c : Config) (i : Instr) : Bool :=
  i.onBackend c.backend && i.voiceInRange c && i.operandLegal

end Sys2Proof
end

