-- ==== Sys2Proof/Decode.lean ====
section
/-! DEFINITION. Decoding and encoding of commands (30_encoding.md R140, R143, R144, R146, R147) and their serialisation (R106).
Decoding is total and rejects by name; the names are the causes of ILLEGAL of R601. -/

namespace Sys2Proof

/-- Why a pair is ILLEGAL (R143, R601), and the one way a byte stream can be short (R140: every command is 64 bits). -/
inductive Illegal where
  /-- `OP` is not in the table of R146 (R143 check 1) -/
  | opcode
  /-- `RSV ≠ 0` (R143 check 2) -/
  | reserved
  /-- a control command with `VOICE ≠ 0` (R143 check 3) -/
  | voiceOnControl
  /-- a voice command of the other backend (R143 checks 4 and 5) -/
  | otherBackend
  /-- a serialised command of fewer than 8 bytes -/
  | truncated
deriving DecidableEq, Repr

/-- A row of the opcode table: what takes the fields of a pair to a command. -/
inductive OpRow where
  | control (make : Word → Instr)
  | voice (make : BitVec 8 → Word → Instr)

/-- The opcode table (R146). -/
def opRow (op : Nat) : Option OpRow :=
  match op with
  | 0x01 => some (.control Instr.reset)
  | 0x02 => some (.control Instr.init)
  | 0x03 => some (.control Instr.render)
  | 0x04 => some (.control Instr.tickdone)
  | 0x05 => some (.control Instr.drain)
  | 0x06 => some (.control Instr.setsink)
  | 0x07 => some (.control Instr.store)
  | 0x08 => some (.control Instr.settempo)
  | 0x09 => some (.control Instr.setspeed)
  | 0x0A => some (.control Instr.setloop)
  | 0x0B => some (.control Instr.setled)
  | 0x0C => some (.control Instr.status)
  | 0x0D => some (.control Instr.read)
  | 0x10 => some (.voice Instr.fpEnable)
  | 0x11 => some (.voice Instr.fpPeriod)
  | 0x12 => some (.voice Instr.fpVolume)
  | 0x13 => some (.voice Instr.fpPointer)
  | 0x14 => some (.voice Instr.fpLength)
  | 0x15 => some (.voice Instr.fpLoopPointer)
  | 0x16 => some (.voice Instr.fpLoopLength)
  | 0x17 => some (.voice Instr.fpMute)
  | 0x18 => some (.voice Instr.fpPanning)
  | 0x20 => some (.voice Instr.vrEnable)
  | 0x21 => some (.voice Instr.vrSpeed)
  | 0x22 => some (.voice Instr.vrDirection)
  | 0x23 => some (.voice Instr.vrFraction)
  | 0x24 => some (.voice Instr.vrVolume)
  | 0x25 => some (.voice Instr.vrPanning)
  | 0x26 => some (.voice Instr.vrPointer)
  | 0x27 => some (.voice Instr.vrLength)
  | 0x28 => some (.voice Instr.vrLoopStart)
  | 0x29 => some (.voice Instr.vrLoopLength)
  | 0x2A => some (.voice Instr.vrLoopMode)
  | 0x2B => some (.voice Instr.vrMute)
  | 0x30 => some (.voice Instr.vrNextBase)
  | 0x31 => some (.voice Instr.vrNextLength)
  | 0x32 => some (.voice Instr.vrNextLoopStart)
  | 0x33 => some (.voice Instr.vrNextLoopLength)
  | 0x34 => some (.voice Instr.vrNextLoopMode)
  | 0x35 => some (.voice Instr.vrTrigger)
  | _ => none

/-- `OP`, CMD[31:24] (R140). -/
def cmdOp (cmd : Word) : Nat := cmd.toNat / 2 ^ 24

/-- `VOICE`, CMD[23:16] (R140). -/
def cmdVoice (cmd : Word) : BitVec 8 := BitVec.ofNat 8 (cmd.toNat / 2 ^ 16)

/-- `RSV`, CMD[15:0] (R140). -/
def cmdRsv (cmd : Word) : Nat := cmd.toNat % 2 ^ 16

/-- Checks 1 to 3 of R143: the command a pair stands for, on whichever backend has it. -/
def decodePair (cmd data : Word) : Except Illegal Instr :=
  match opRow (cmdOp cmd) with
  | none => .error .opcode
  | some row =>
    if cmdRsv cmd ≠ 0 then .error .reserved
    else
      match row with
      | .control make => if cmdVoice cmd ≠ 0#8 then .error .voiceOnControl else .ok (make data)
      | .voice make => .ok (make (cmdVoice cmd) data)

/-- The decoder of an instance of backend `b` (R143): checks 1 to 3, then 4 and 5. -/
def decode (b : Backend) (cmd data : Word) : Except Illegal Instr :=
  match decodePair cmd data with
  | .error e => .error e
  | .ok i => if i.onBackend b then .ok i else .error .otherBackend

/-- The command word with a given opcode and voice, `RSV` 0 (R140, R147). -/
def cmdWord (op : Nat) (v : BitVec 8) : Word := BitVec.ofNat 32 (op * 2 ^ 24 + v.toNat * 2 ^ 16)

/-- The pair `(CMD, DATA)` of a command (R146, R147). -/
def encode : Instr → Word × Word
  | .reset d => (cmdWord 0x01 0, d)
  | .init d => (cmdWord 0x02 0, d)
  | .render d => (cmdWord 0x03 0, d)
  | .tickdone d => (cmdWord 0x04 0, d)
  | .drain d => (cmdWord 0x05 0, d)
  | .setsink d => (cmdWord 0x06 0, d)
  | .store d => (cmdWord 0x07 0, d)
  | .settempo d => (cmdWord 0x08 0, d)
  | .setspeed d => (cmdWord 0x09 0, d)
  | .setloop d => (cmdWord 0x0A 0, d)
  | .setled d => (cmdWord 0x0B 0, d)
  | .status d => (cmdWord 0x0C 0, d)
  | .read d => (cmdWord 0x0D 0, d)
  | .fpEnable v d => (cmdWord 0x10 v, d)
  | .fpPeriod v d => (cmdWord 0x11 v, d)
  | .fpVolume v d => (cmdWord 0x12 v, d)
  | .fpPointer v d => (cmdWord 0x13 v, d)
  | .fpLength v d => (cmdWord 0x14 v, d)
  | .fpLoopPointer v d => (cmdWord 0x15 v, d)
  | .fpLoopLength v d => (cmdWord 0x16 v, d)
  | .fpMute v d => (cmdWord 0x17 v, d)
  | .fpPanning v d => (cmdWord 0x18 v, d)
  | .vrEnable v d => (cmdWord 0x20 v, d)
  | .vrSpeed v d => (cmdWord 0x21 v, d)
  | .vrDirection v d => (cmdWord 0x22 v, d)
  | .vrFraction v d => (cmdWord 0x23 v, d)
  | .vrVolume v d => (cmdWord 0x24 v, d)
  | .vrPanning v d => (cmdWord 0x25 v, d)
  | .vrPointer v d => (cmdWord 0x26 v, d)
  | .vrLength v d => (cmdWord 0x27 v, d)
  | .vrLoopStart v d => (cmdWord 0x28 v, d)
  | .vrLoopLength v d => (cmdWord 0x29 v, d)
  | .vrLoopMode v d => (cmdWord 0x2A v, d)
  | .vrMute v d => (cmdWord 0x2B v, d)
  | .vrNextBase v d => (cmdWord 0x30 v, d)
  | .vrNextLength v d => (cmdWord 0x31 v, d)
  | .vrNextLoopStart v d => (cmdWord 0x32 v, d)
  | .vrNextLoopLength v d => (cmdWord 0x33 v, d)
  | .vrNextLoopMode v d => (cmdWord 0x34 v, d)
  | .vrTrigger v d => (cmdWord 0x35 v, d)

/-- A word serialised little-endian (R106, D32). -/
def wordBytes (w : Word) : List Byte :=
  [w.extractLsb' 0 8, w.extractLsb' 8 8, w.extractLsb' 16 8, w.extractLsb' 24 8]

/-- The word four little-endian bytes stand for (R106). -/
def wordOfBytes (b0 b1 b2 b3 : Byte) : Word := b3 ++ b2 ++ b1 ++ b0

/-- A command serialised for a byte transport: `CMD` then `DATA`, each little-endian (R106; the order of the two words is a
DESIGN CHOICE, log 18). -/
def encodeBytes (i : Instr) : List Byte := wordBytes (encode i).1 ++ wordBytes (encode i).2

/-- The next command of a serialised stream, on whichever backend has it, and the rest of the stream (R106, R143). -/
def decodeBytes : List Byte → Except Illegal (Instr × List Byte)
  | b0 :: b1 :: b2 :: b3 :: b4 :: b5 :: b6 :: b7 :: rest =>
    match decodePair (wordOfBytes b0 b1 b2 b3) (wordOfBytes b4 b5 b6 b7) with
    | .ok i => .ok (i, rest)
    | .error e => .error e
  | _ => .error .truncated

/-- The pair `(CMD, DATA)` whose bits are the low `nbits` bits of `w`, bit 0 the least significant of `CMD`, every other bit 0. -/
def tablePair (nbits w : Nat) : Word × Word :=
  (BitVec.ofNat 32 (w % 2 ^ nbits), BitVec.ofNat 32 (w % 2 ^ nbits / 2 ^ 32))

/-- The instruction the decoder reads from the serialised bytes of that pair (the opcode table numbers an instruction's bits
from the first word's bit 0). It asks of no backend: a row of either backend is an instruction of the table. -/
def decodeTableWord (nbits w : Nat) : Option Instr :=
  match decodeBytes (wordBytes (tablePair nbits w).1 ++ wordBytes (tablePair nbits w).2) with
  | .ok (i, _) => some i
  | .error _ => none

end Sys2Proof
end

