-- ==== Sys2Proof/Machine/Memory.lean ====
section
/-! DEFINITION. The sample arena as a memory: a list of (address, byte) cells (R47, R100, R111). An address that is not listed
has no value: it does not exist (R100), and reading it is the ArenaRangeFault of R112. No command overwrites a byte, so the only
write is the append of R550. -/

namespace Sys2Proof.Machine

/-- The arena's bytes, one cell per byte stored. -/
abbrev Memory := List Host.Cell

/-- The canonical form: the listed addresses are exactly 0, 1, 2, … in order, so they rise strictly, without a hole, from
offset 0 (R100, R111). -/
def Memory.wf (m : Memory) : Bool := m.map Prod.fst == List.range m.length

/-- The byte at an address, `none` where none is listed. -/
def Memory.read : Memory → Nat → Option Byte
  | [], _ => none
  | (k, b) :: rest, a => if k = a then some b else Memory.read rest a

/-- Consecutive cells from address `a` on. -/
def cellsFrom (a : Nat) : List Byte → Memory
  | [] => []
  | b :: bs => (a, b) :: cellsFrom (a + 1) bs

/-- `ArenaAppend(bytes)` (R12, R550): the bytes at the next free offsets. -/
def Memory.append (m : Memory) (bs : List Byte) : Memory := m ++ cellsFrom m.length bs

end Sys2Proof.Machine
end

