-- ==== Sys2Proof/Machine/Voices.lean ====
section
/-! DEFINITION. The voice registers of the two engines and their reset values (10_state.md R50, R53, R55). Integer registers are
exact integers (R10); the widths are those of the tables and are part of the invariants of `Safety.lean`. -/

namespace Sys2Proof.Machine

/-- A fixed-period voice (R50). -/
structure FpVoice where
  enabled : Bool
  mute : Bool
  /-- u16 -/
  period : Nat
  /-- u8, 0..64 -/
  volume : Nat
  pan : NUM
  /-- u32: the read cursor, an absolute arena offset (R51) -/
  pointer : Nat
  /-- u32: bytes left in the current region (R51) -/
  length : Nat
  /-- u32 -/
  loopPointer : Nat
  /-- u32 -/
  loopLength : Nat
  /-- u16, 0..2 -/
  delay : Nat
  fractionalTimer : NUM
  /-- the value of the byte fetched last -/
  dac : NUM
  heldL : NUM
  heldR : NUM
deriving DecidableEq, Repr

/-- The reset and INIT value of a fixed-period voice (R50). -/
def FpVoice.initial : FpVoice where
  enabled := false
  mute := false
  period := 0
  volume := 0
  pan := 0#32
  pointer := 0
  length := 0
  loopPointer := 0
  loopLength := 0
  delay := 0
  fractionalTimer := 0#32
  dac := 0#32
  heldL := 0#32
  heldR := 0#32

/-- A stream: where a sample is read and how it moves (R53). -/
structure Stream where
  /-- u32: arena offset of the sample's byte 0 -/
  base : Nat
  /-- u32 -/
  length : Nat
  /-- u32, relative to `base` -/
  loopStart : Nat
  /-- u32 -/
  loopLength : Nat
  loopMode : LoopMode
  /-- the integer read position, relative to `base`, in [−65536, 2^33) -/
  pointer : Int
  /-- in [0.0, 1.0) -/
  fraction : NUM
  direction : Direction
  /-- in [0.0, 65536.0) -/
  speed : NUM
deriving DecidableEq, Repr

/-- The reset and INIT value of a stream (R55). -/
def Stream.initial : Stream where
  base := 0
  length := 0
  loopStart := 0
  loopLength := 0
  loopMode := .noLoop
  pointer := 0
  fraction := 0#32
  direction := .ahead
  speed := 0#32

/-- A variable-rate voice (R55). -/
structure VrVoice where
  enabled : Bool
  mute : Bool
  /-- u8, 0..64 -/
  volume : Nat
  /-- u8, 0..255 -/
  panning : Nat
  /-- the sample now playing -/
  live : Stream
  /-- the snapshot taken at a retrigger -/
  old : Stream
  oldActive : Bool
  /-- u32 -/
  nextBase : Nat
  /-- u32 -/
  nextLength : Nat
  /-- u32 -/
  nextLoopStart : Nat
  /-- u32 -/
  nextLoopLength : Nat
  nextLoopMode : LoopMode
  curVol : NUM
  curPan : NUM
  volumeRamp : NUM
  panningRamp : NUM
  /-- u32 -/
  volCounter : Nat
  /-- u32 -/
  panCounter : Nat
  /-- 0..220 -/
  mixCounter : Nat
  oldGainL : NUM
  oldGainR : NUM
  mixRampUpL : NUM
  mixRampUpR : NUM
  mixRampDownL : NUM
  mixRampDownR : NUM
  heldL : NUM
  heldR : NUM
deriving DecidableEq, Repr

/-- The reset and INIT value of a variable-rate voice (R55). -/
def VrVoice.initial : VrVoice where
  enabled := false
  mute := false
  volume := 0
  panning := 128
  live := Stream.initial
  old := Stream.initial
  oldActive := false
  nextBase := 0
  nextLength := 0
  nextLoopStart := 0
  nextLoopLength := 0
  nextLoopMode := .noLoop
  curVol := 0#32
  curPan := NUM.c128
  volumeRamp := 0#32
  panningRamp := 0#32
  volCounter := 0
  panCounter := 0
  mixCounter := 0
  oldGainL := 0#32
  oldGainR := 0#32
  mixRampUpL := 0#32
  mixRampUpR := 0#32
  mixRampDownL := 0#32
  mixRampDownR := 0#32
  heldL := 0#32
  heldR := 0#32

/-- The fixed-period voices of an instance at reset: 4 of them when BACKEND = FP, else none exist (R49, log 12). -/
def fpBank (c : Config) : List FpVoice :=
  match c.backend with
  | .fp => List.replicate fpVoices FpVoice.initial
  | .vr => []

/-- The variable-rate voices of an instance at reset: NV of them when BACKEND = VR, else none exist (R52, log 12). -/
def vrBank (c : Config) : List VrVoice :=
  match c.backend with
  | .fp => []
  | .vr => List.replicate c.nv VrVoice.initial

end Sys2Proof.Machine
end

