-- ==== Sys2Proof/Machine/State.lean ====
section
/-! DEFINITION. The state of the block (10_state.md), its edge to the host, the ways a step can stop, and the machine after reset
(R701, R702). -/

namespace Sys2Proof.Machine

/-- Why the model's step stops with a fault. (The block's own faults, R605, are NEXT states with the fault registers set.) -/
inductive Fault where
  /-- Raised by mixing a fixed-period voice whose timer is still below 1.0 after the three fetches that R617 says are the most one
  output sample takes. Safe: the model stops where the `while` loop of R211 would go on, and no reachable state gets there
  (log 9). -/
  | fetchLoopUnbounded
deriving DecidableEq, Repr

/-- Why a step is refused. -/
inductive Refusal where
  /-- Raised by `exec` for a command without a meaning, by its mnemonic. Safe. Every command has its meaning, so nothing
  raises it. -/
  | notModelled (mnemonic : String)
deriving DecidableEq, Repr

/-- The STATUS of a command's result (R145). -/
inductive Status where
  | ok
  | tick
  | illegal
  | badVoice
  | badValue
  | chunkOverflow
  | notInitialized
  | busy
  | noTick
  | undrained
  | drainRange
  | arenaSealed
  | arenaFull
  | faulted
deriving DecidableEq, Repr

/-- A command's result: a STATUS and a 32-bit VALUE (R145). -/
structure Result where
  status : Status
  value : Word
deriving DecidableEq, Repr

/-- A command as the host issues it: the pair, and the payload a STORE reads (R140, R102, R550). -/
structure Command where
  cmd : Word
  data : Word
  src : List Byte
  pos : Nat
deriving DecidableEq, Repr

/-- The clock's `state` (R56). -/
inductive PlayState where
  /-- 0 -/
  | idle
  /-- 1 -/
  | playing
  /-- 2 -/
  | completed
deriving DecidableEq, Repr

/-- The playback clock registers (R56). -/
structure Clock where
  state : PlayState
  /-- u32, 1..110250 -/
  samplesPerTick : Nat
  /-- u32 -/
  samplesRemainingInTick : Nat
  /-- u16, 1..65535 -/
  tempo : Nat
  /-- u8, a host scratch register (R57) -/
  speed : Nat
  /-- u32 -/
  remainingAfterCompletion : Nat
  loopSong : Bool
  tickPending : Bool
deriving DecidableEq, Repr

/-- The four stage histories of one side of the filter (R58). -/
structure Stages where
  s1 : NUM
  s2 : NUM
  s3 : NUM
  s4 : NUM
deriving DecidableEq, Repr

/-- The filter registers (R58): the flags and `s1L .. s4L`, `s1R .. s4R`. -/
structure Filter where
  ledActive : Bool
  ledForced : Bool
  left : Stages
  right : Stages
deriving DecidableEq, Repr

/-- The drain and sink registers (R60). -/
structure Drain where
  /-- u32 -/
  sinkAvail : Nat
  /-- u32 -/
  drainShortfall : Nat
  sinkFull : Bool
deriving DecidableEq, Repr

/-- The render context, which stands in for a program counter (R41, R72). -/
structure RenderCtx where
  rActive : Bool
  /-- u32 -/
  rRequested : Nat
  /-- u32 -/
  rTarget : Nat
  /-- u32 -/
  rProduced : Nat
deriving DecidableEq, Repr

/-- The fault codes (R73): 0, 1, 2. -/
inductive FaultCode where
  /-- 0 -/
  | noFault
  /-- 1 -/
  | arenaRange
  /-- 2 -/
  | numeric
deriving DecidableEq, Repr

/-- The fault registers (R73). -/
structure FaultRegs where
  fault : Bool
  faultCode : FaultCode
  /-- u32 -/
  faultAddr : Nat
deriving DecidableEq, Repr

/-- The host's side of the interface, as plain lists (log 2, log 4). -/
structure Port where
  /-- the commands the host has issued and the block has not yet taken, first to be taken first -/
  inbox : List Command
  /-- the payload bytes of the command being executed (R102, R550) -/
  src : List Byte
  /-- the payload's start position (R550) -/
  pos : Nat
  /-- the results returned so far, in order (R145, R721) -/
  results : List Result
  /-- the bytes written to the PCM port so far, in order (R101, R721) -/
  pcm : List Byte
deriving DecidableEq, Repr

/-- The state of an instance: its parameters, everything 10_state.md gives the block, the host's side, and the model's counter of
free values (log 6). -/
structure State where
  /-- the instance's parameters (R7); no step changes them -/
  cfg : Config
  /-- `acc[0 .. CHUNK_N−1]` (R43) -/
  acc : List Frame
  /-- u32, 0..CHUNK_N (R44) -/
  lastProduced : Nat
  /-- u32, 0..lastProduced (R45) -/
  drainPos : Nat
  /-- the sample arena (R47); `arenaLen` is its length -/
  arena : Memory
  /-- R48 -/
  isSealed : Bool
  /-- the fixed-period voices (R49, R50) -/
  fp : List FpVoice
  /-- the variable-rate voices (R52, R55) -/
  vr : List VrVoice
  /-- R56 -/
  clk : Clock
  /-- R58 -/
  flt : Filter
  /-- R60 -/
  snk : Drain
  /-- R72 -/
  rc : RenderCtx
  /-- R73 -/
  flr : FaultRegs
  /-- the host's side -/
  port : Port
  /-- how many times the accumulator was made free (model's own, log 6) -/
  freeCtr : Nat
deriving DecidableEq, Repr

/-- A newly created instance with the given parameters: every register at the reset value of R702, nothing issued by the host
(R701). -/
def State.powerOn (c : Config) : State where
  cfg := c
  acc := List.replicate c.chunkN Frame.zero
  lastProduced := 0
  drainPos := 0
  arena := []
  isSealed := false
  fp := fpBank c
  vr := vrBank c
  clk :=
    { state := .idle
      samplesPerTick := c.resetSpt
      samplesRemainingInTick := 0
      tempo := 125
      speed := 6
      remainingAfterCompletion := 0
      loopSong := false
      tickPending := false }
  flt := { ledActive := false, ledForced := false, left := ⟨0, 0, 0, 0⟩, right := ⟨0, 0, 0, 0⟩ }
  snk := { sinkAvail := 0, drainShortfall := 0, sinkFull := false }
  rc := { rActive := false, rRequested := 0, rTarget := 0, rProduced := 0 }
  flr := { fault := false, faultCode := .noFault, faultAddr := 0 }
  port := { inbox := [], src := [], pos := 0, results := [], pcm := [] }
  freeCtr := 0

/-- The machine right after reset: the instance whose parameters are `Config.sample` (log 1). -/
def State.reset : State := State.powerOn Config.sample

end Sys2Proof.Machine
end

