-- ==== Sys2Proof/Machine/Ops.lean ====
section
/-! DEFINITION. The operations the commands share: taking a command, answering it, the check chain of R615, register writes, the
accumulator, the arena read, fault entry (R605), tick entry and tick return (R611, R612), RESET and INIT of the state. -/

namespace Sys2Proof.Machine

/-- What a step answers. -/
abbrev Answer := Host.Outcome State Fault Refusal

/-- The STATUS byte (R145). -/
def Status.code : Status → Nat
  | .ok => 0x00
  | .tick => 0x01
  | .illegal => 0x10
  | .badVoice => 0x11
  | .badValue => 0x12
  | .chunkOverflow => 0x13
  | .notInitialized => 0x14
  | .busy => 0x15
  | .noTick => 0x16
  | .undrained => 0x17
  | .drainRange => 0x18
  | .arenaSealed => 0x19
  | .arenaFull => 0x1A
  | .faulted => 0x1B

/-- A 32-bit VALUE (R145). Every value a rule returns is below 2^32 in the states of `Safety.lean`. -/
def value (n : Nat) : Word := BitVec.ofNat 32 n

/-- The command ends with a result (R145). -/
def State.reply (s : State) (st : Status) (v : Word) : State :=
  { s with port := { s.port with results := s.port.results ++ [⟨st, v⟩] } }

/-- The command ends with an error status: VALUE 0 and no change to any state of the block (R600). -/
def State.refuseWith (s : State) (st : Status) : State := s.reply st 0

/-- The block takes the next command: it leaves the inbox and its payload is the one STORE reads (R102, R550). -/
def State.takeCommand (s : State) (c : Command) (rest : List Command) : State :=
  { s with port := { s.port with inbox := rest, src := c.src, pos := c.pos } }

/-- `arenaLen` (R47). -/
def State.arenaLen (s : State) : Nat := s.arena.length

/-- The undrained frames, `lastProduced − drainPos` (R45). -/
def State.undrained (s : State) : Nat := s.lastProduced - s.drainPos

/-- The first failing check of a list of checks, each a failure condition and its status: R615's "the first failing check decides
the result". -/
def firstError : List (Bool × Status) → Option Status
  | [] => none
  | (failed, st) :: rest => if failed then some st else firstError rest

/-- A command that is refused by the first failing check and otherwise acts (R600, R615). -/
def guarded (checks : List (Bool × Status)) (s : State) (act : Answer) : Answer :=
  match firstError checks with
  | some st => .next (s.refuseWith st)
  | none => act

/-- The checks of R615 that a voice command of backend `b` makes: decode, fault, voice, operand. -/
def voiceChecks (b : Backend) (v : BitVec 8) (legal : Bool) (s : State) : List (Bool × Status) :=
  [(s.cfg.backend != b, .illegal), (s.flr.fault, .faulted), (decide (s.cfg.voiceCount ≤ v.toNat), .badVoice),
    (!legal, .badValue)]

/-- Write the fields of one fixed-period voice. -/
def State.modFp (s : State) (v : Nat) (f : FpVoice → FpVoice) : State := { s with fp := s.fp.modify v f }

/-- Write the fields of one variable-rate voice. -/
def State.modVr (s : State) (v : Nat) (f : VrVoice → VrVoice) : State := { s with vr := s.vr.modify v f }

/-- A fixed-period voice write: the checks, then the write with the operand, then `OK(0)` (R200 to R208, R615). -/
def fpWrite {α : Type} (v : BitVec 8) (operand : Option α) (f : α → FpVoice → FpVoice) (s : State) : Answer :=
  guarded (voiceChecks .fp v operand.isSome s) s <|
    match operand with
    | some x => .next ((s.modFp v.toNat (f x)).reply .ok 0)
    | none => .next (s.refuseWith .badValue)

/-- A variable-rate voice write: the checks, then the write with the operand, then `OK(0)` (R300 to R317, R615). -/
def vrWrite {α : Type} (v : BitVec 8) (operand : Option α) (f : α → VrVoice → VrVoice) (s : State) : Answer :=
  guarded (voiceChecks .vr v operand.isSome s) s <|
    match operand with
    | some x => .next ((s.modVr v.toNat (f x)).reply .ok 0)
    | none => .next (s.refuseWith .badValue)

/-- Every accumulator entry cleared to `(+0.0, +0.0)` (R453, R450). -/
def State.clearAcc (s : State) : State := { s with acc := s.acc.map fun _ => Frame.zero }

/-- The entries `acc[i .. i+n−1]`. -/
def framesAt (acc : List Frame) (i n : Nat) : List Frame := (acc.drop i).take n

/-- The accumulator with the entries `acc[i .. i+n−1]` replaced. -/
def putFrames (acc : List Frame) (i n : Nat) (fs : List Frame) : List Frame := acc.take i ++ fs ++ acc.drop (i + n)

/-- Add one voice's contribution to an accumulator entry (R211, R329). -/
def addFrame (a : Frame) (l r : NUM) : Frame := ⟨NUM.fadd a.l l, NUM.fadd a.r r⟩

/-- Why mixing stopped inside a segment. -/
inductive MixStop where
  /-- an arena read at this offset, outside `[0, arenaLen)` (R112, R606) -/
  | arenaRange (addr : Nat)
  /-- the loop bound of R617 was passed (log 9) -/
  | fetchLoop
deriving DecidableEq, Repr

/-- What mixing leaves: the voice or voices, the frames, and why it stopped, if it did. -/
structure Mixed (α β : Type) where
  voices : α
  frames : β
  stop : Option MixStop
deriving DecidableEq, Repr

/-- One voice over the frames of a segment, in index order, until a stop (R210, R320). -/
def mixVoice {V : Type} (f : V → Frame → Mixed V Frame) : V → List Frame → Mixed V (List Frame)
  | v, [] => ⟨v, [], none⟩
  | v, a :: rest =>
    let m := f v a
    match m.stop with
    | some e => ⟨m.voices, m.frames :: rest, some e⟩
    | none =>
      let t := mixVoice f m.voices rest
      ⟨t.voices, m.frames :: t.frames, t.stop⟩

/-- The voices over the frames of a segment, in voice order (FP_ORDER, R210; 0 to NV−1, R320), until a stop. -/
def mixVoices {V : Type} (f : V → Frame → Mixed V Frame) : List V → List Frame → Mixed (List V) (List Frame)
  | [], fs => ⟨[], fs, none⟩
  | v :: vs, fs =>
    let m := mixVoice f v fs
    match m.stop with
    | some e => ⟨m.voices :: vs, m.frames, some e⟩
    | none =>
      let t := mixVoices f vs m.frames
      ⟨m.voices :: t.voices, t.frames, t.stop⟩

/-- The accumulator with every channel a free value: its contents after an ARENA_RANGE fault are unspecified (R605, 93 U3,
log 6). -/
def State.freeAcc (s : State) : State :=
  { s with
    acc := s.acc.mapIdx fun i _ => ⟨Config.freeChannel s.freeCtr (2 * i), Config.freeChannel s.freeCtr (2 * i + 1)⟩
    freeCtr := s.freeCtr + 1 }

/-- Fault entry (R605): the sticky fault is set with its code and address (saturated to 32 bits, R606), a pending tick and the
render pass end, and the command answers FAULTED. -/
def raiseFault (code : FaultCode) (addr : Nat) (s : State) : State :=
  ({ s with
      flr := { fault := true, faultCode := code, faultAddr := min addr 0xFFFFFFFF }
      clk := { s.clk with tickPending := false }
      rc := { s.rc with rActive := false } } : State).refuseWith .faulted

/-- The end of a RENDER or TICK_DONE whose mixing stopped: an ArenaRangeFault (R606), whose accumulator is unspecified (R605);
or the model's own stop. -/
def stopMixing (e : MixStop) (s : State) : Answer :=
  match e with
  | .arenaRange a => .next (raiseFault .arenaRange a s.freeAcc)
  | .fetchLoop => .fault .fetchLoopUnbounded

/-- Tick entry (R611): the tick request is pending, the render context is kept, and the command ends with `TICK(rProduced)`. -/
def tickEntry (s : State) : State :=
  ({ s with clk := { s.clk with tickPending := true } } : State).reply .tick (value s.rc.rProduced)

/-- Tick return (R456, R612), up to the resumption of Run: the request is cleared, the tick budget is loaded, and a song end that is
not suppressed completes the song and lowers the pass's target (D23). -/
def tickReturn (songEnd : Bool) (s : State) : State :=
  let spt := s.clk.samplesPerTick
  if songEnd && !s.clk.loopSong then
    let target := min s.rc.rTarget (s.rc.rProduced + spt)
    { s with
      clk := { s.clk with
        tickPending := false
        samplesRemainingInTick := spt
        state := .completed
        remainingAfterCompletion := s.rc.rRequested - target }
      rc := { s.rc with rTarget := target } }
  else
    { s with clk := { s.clk with tickPending := false, samplesRemainingInTick := spt } }

/-- The end of a render pass (R455): `OK(rProduced)`. -/
def endPass (s : State) : State :=
  ({ s with rc := { s.rc with rActive := false } } : State).reply .ok (value s.rc.rProduced)

/-- Every register at its reset value (R700, R702). The parameters, what the host has issued and received, and the counter of free
values are not the block's registers (R701, log 19). -/
def State.resetRegisters (s : State) : State := { State.powerOn s.cfg with port := s.port, freeCtr := s.freeCtr }

/-- What INIT does (R450, R703). -/
def State.initRegisters (s : State) : State :=
  { s with
    acc := s.acc.map fun _ => Frame.zero
    lastProduced := 0
    drainPos := 0
    fp := fpBank s.cfg
    vr := vrBank s.cfg
    clk := { s.clk with
      state := .playing
      samplesPerTick :=
        match s.cfg.backend with
        | .fp => s.cfg.fpPresetSpt
        | .vr => tempoBase / s.clk.tempo
      samplesRemainingInTick := 0
      remainingAfterCompletion := 0 }
    flt := { s.flt with left := ⟨0, 0, 0, 0⟩, right := ⟨0, 0, 0, 0⟩ }
    snk := { s.snk with drainShortfall := 0, sinkFull := false }
    rc := { rActive := false, rRequested := 0, rTarget := 0, rProduced := 0 } }

/-- Bytes leave on the PCM port, in order (`SinkWrite`, R12, R101, R503). -/
def State.sinkWrite (s : State) (bs : List Byte) : State := { s with port := { s.port with pcm := s.port.pcm ++ bs } }

/-- The host issues a pair as the very next command, without a STORE payload (log 3). -/
def State.pushCommand (p : Word × Word) (s : State) : State :=
  { s with port := { s.port with inbox := ⟨p.1, p.2, [], 0⟩ :: s.port.inbox } }

/-- The instance with the backend a command needs: unchanged for a control command or a command of its own backend, else an instance
of the other backend with that backend's voices at reset (R2, R143, log 3). -/
def State.selectBackend (i : Option Instr) (s : State) : State :=
  match i.bind Instr.backend? with
  | none => s
  | some b =>
    if b = s.cfg.backend then s
    else
      let c := { s.cfg with backend := b }
      { s with cfg := c, fp := fpBank c, vr := vrBank c }

end Sys2Proof.Machine
end

