-- ==== Sys2Proof/Machine/PcmDrain.lean ====
section
/-! DEFINITION. The PCM drain (45_drain.md): SET_SINK, DRAIN, the conversion to 16 bits and the byte format. -/

namespace Sys2Proof.Machine

/-- Convert(x) (R504), for an `x` that is not a NaN (R506). -/
def convert (c : Config) (x : NUM) : Int :=
  if NUM.flt NUM.one x then 32767
  else if NUM.flt x (NUM.neg NUM.one) then c.clipNeg.toInt
  else NUM.roundHalfAway (NUM.fmul x NUM.c32767)

/-- A 16-bit two's complement value, little-endian (R105, R503). -/
def pcm16 (n : Int) : List Byte :=
  let w := BitVec.ofInt 16 n
  [w.extractLsb' 0 8, w.extractLsb' 8 8]

/-- WriteFrame(Convert(l), Convert(r)): the 4 bytes of a frame, left then right (R503). -/
def frameBytes (c : Config) (a : Frame) : List Byte := pcm16 (convert c a.l) ++ pcm16 (convert c a.r)

/-- Whether a frame holds a NaN (R506). -/
def frameNaN (a : Frame) : Bool := NUM.isNaN a.l || NUM.isNaN a.r

/-- The index of the first frame that holds a NaN, counted from `i` (R501, R506). -/
def firstNaN : Nat → List Frame → Option Nat
  | _, [] => none
  | i, a :: rest => if frameNaN a then some i else firstNaN (i + 1) rest

/-- The frames a DRAIN of `n` writes: `k = min(n, sinkAvail div 4)` (R501). -/
def State.drainCount (n : Nat) (s : State) : Nat := min n (s.snk.sinkAvail / 4)

/-- The writing half of DRAIN (R501): `k` frames out, their entries zeroed, the drain registers moved. -/
def State.drainFrames (n : Nat) (s : State) : State :=
  let k := s.drainCount n
  let fs := framesAt s.acc s.drainPos k
  { s.sinkWrite (fs.flatMap (frameBytes s.cfg)) with
    acc := putFrames s.acc s.drainPos k (fs.map fun _ => Frame.zero)
    drainPos := s.drainPos + k
    snk :=
      { sinkAvail := s.snk.sinkAvail - 4 * k
        drainShortfall := n - k
        sinkFull := decide (k < n) } }

/-- `setsink n` (R500). -/
def execSetsink (d : Word) (s : State) : Answer :=
  guarded [(s.flr.fault, .faulted)] s <|
    .next (({ s with snk := { s.snk with sinkAvail := opU32 d } } : State).reply .ok 0)

/-- `drain n` (R501): the checks, the NaN pre-check, then the frames. -/
def execDrain (d : Word) (s : State) : Answer :=
  let n := opU32 d
  guarded [(s.flr.fault, .faulted), (s.clk.tickPending, .busy), (decide (s.undrained < n), .drainRange)] s <|
    match firstNaN s.drainPos (framesAt s.acc s.drainPos (s.drainCount n)) with
    | some i => .next (raiseFault .numeric i s)
    | none => .next ((s.drainFrames n).reply .ok (value (s.drainCount n)))

end Sys2Proof.Machine
end

