-- ==== Sys2Proof/Machine/FixedPeriod.lean ====
section
/-! DEFINITION. The fixed-period engine (41_fixed_period.md): per-sample mixing and the nine voice-register commands. -/

namespace Sys2Proof.Machine

/-- The end-of-region reload (R51, R212). -/
def FpVoice.reload (v : FpVoice) : FpVoice := { v with pointer := v.loopPointer, length := v.loopLength }

/-- FPFetch(v) after its first reload, with `length > 0`: read the byte at `pointer`, advance, and reload at the region's end
(R212). -/
def fpFetchByte (m : Memory) (v : FpVoice) : FpVoice × Option MixStop :=
  match m.read v.pointer with
  | none => (v, some (.arenaRange v.pointer))
  | some b =>
    let w := { v with dac := NUM.ofSample b, pointer := v.pointer + 1, length := v.length - 1 }
    (if w.length = 0 then w.reload else w, none)

/-- FPFetch(v) (R212): an exhausted region reloads first, and with nothing to reload the voice disables itself (R218). -/
def fpFetch (m : Memory) (v : FpVoice) : FpVoice × Option MixStop :=
  if v.length = 0 then
    if v.loopLength = 0 then ({ v.reload with enabled := false }, none) else fpFetchByte m v.reload
  else fpFetchByte m v

/-- The `while` loop of R211, at most `fuel` fetches (R617, log 9): fetch and add `step` while the voice is enabled and its timer
is below 1.0. -/
def fpFetchLoop (m : Memory) (step : NUM) : Nat → FpVoice → FpVoice × Option MixStop
  | fuel, v =>
    if v.enabled && NUM.flt v.fractionalTimer NUM.one then
      match fuel with
      | 0 => (v, some .fetchLoop)
      | fuel' + 1 =>
        match fpFetch m v with
        | (w, some e) => (w, some e)
        | (w, none) =>
          fpFetchLoop m step fuel'
            (if w.enabled then { w with fractionalTimer := NUM.fadd w.fractionalTimer step } else w)
    else (v, none)

/-- The step of a period, `fdiv(toNUM(period), CHIP_CLOCK)` (R214). -/
def fpStep (c : Config) (period : Nat) : NUM := NUM.fdiv (NUM.toNUM period) c.chipClock

/-- The timing part of FPVoiceSample (R211): the trigger delay (R217), or the timer and its fetches. -/
def fpTime (c : Config) (m : Memory) (v : FpVoice) : FpVoice × Option MixStop :=
  if 0 < v.delay then ({ v with delay := v.delay - 1 }, none)
  else
    fpFetchLoop m (fpStep c v.period) fpMaxFetches { v with fractionalTimer := NUM.fsub v.fractionalTimer NUM.one }

/-- The live contribution of a voice: `dac × (g × (1 ∓ pan))` with `g = volume/64 × MASTER_FP`, in this order (R211, R215). -/
def fpGained (c : Config) (v : FpVoice) : NUM × NUM :=
  let g := NUM.fmul (NUM.fdiv (NUM.toNUM v.volume) NUM.c64) c.masterFp
  (NUM.fmul v.dac (NUM.fmul g (NUM.fsub NUM.one v.pan)), NUM.fmul v.dac (NUM.fmul g (NUM.fadd NUM.one v.pan)))

/-- The held values after a sample: a muted voice keeps them, an unmuted one stores its live contribution (R211, R216). What the
voice adds to the accumulator is the held values after this. -/
def fpHold (c : Config) (v : FpVoice) : FpVoice :=
  if v.mute then v else { v with heldL := (fpGained c v).1, heldR := (fpGained c v).2 }

/-- FPVoiceSample(v, i) (R211): the period gate (R213), the timing part, and the contribution. -/
def fpVoiceSample (c : Config) (m : Memory) (v : FpVoice) (a : Frame) : Mixed FpVoice Frame :=
  if !v.enabled || decide (v.period ≤ fpMinPeriod) then ⟨v, a, none⟩
  else
    match fpTime c m v with
    | (w, some e) => ⟨w, a, some e⟩
    | (w, none) =>
      if !w.enabled then ⟨w, a, none⟩
      else
        let h := fpHold c w
        ⟨h, addFrame a h.heldL h.heldR, none⟩

/-- FP_SET_ENABLED on a voice: a rising edge starts the trigger delay and the timer (R200). -/
def fpSetEnabled (b : Bool) (v : FpVoice) : FpVoice :=
  if b && !v.enabled then { v with delay := fpTriggerDelay, fractionalTimer := 0#32, enabled := true }
  else { v with enabled := b }

/-- `fp.enable v, b` (R200). -/
def execFpEnable (v : BitVec 8) (d : Word) (s : State) : Answer := fpWrite v (opBool d) fpSetEnabled s

/-- `fp.period v, p` (R201). -/
def execFpPeriod (v : BitVec 8) (d : Word) (s : State) : Answer :=
  fpWrite v (some (opClamp 0 65535 d)) (fun p x => { x with period := p }) s

/-- `fp.volume v, x` (R202). -/
def execFpVolume (v : BitVec 8) (d : Word) (s : State) : Answer :=
  fpWrite v (some (opClamp 0 64 d)) (fun n x => { x with volume := n }) s

/-- `fp.pointer v, a` (R203). -/
def execFpPointer (v : BitVec 8) (d : Word) (s : State) : Answer :=
  fpWrite v (some (opU32 d)) (fun a x => { x with pointer := a }) s

/-- `fp.length v, n` (R204). -/
def execFpLength (v : BitVec 8) (d : Word) (s : State) : Answer :=
  fpWrite v (some (opU32 d)) (fun n x => { x with length := n }) s

/-- `fp.looppointer v, a` (R205). -/
def execFpLoopPointer (v : BitVec 8) (d : Word) (s : State) : Answer :=
  fpWrite v (some (opU32 d)) (fun a x => { x with loopPointer := a }) s

/-- `fp.looplength v, n` (R206). -/
def execFpLoopLength (v : BitVec 8) (d : Word) (s : State) : Answer :=
  fpWrite v (some (opU32 d)) (fun n x => { x with loopLength := n }) s

/-- `fp.mute v, b` (R207). -/
def execFpMute (v : BitVec 8) (d : Word) (s : State) : Answer :=
  fpWrite v (opBool d) (fun b x => { x with mute := b }) s

/-- `fp.panning v, x` (R208). -/
def execFpPanning (v : BitVec 8) (d : Word) (s : State) : Answer :=
  fpWrite v (opF32 d) (fun p x => { x with pan := p }) s

end Sys2Proof.Machine
end

