-- ==== Sys2Proof/Machine/Flags.lean ====
section
/-! DEFINITION. The status flags as the host sees them: the status word (R80, R82) and the READ selectors (R81). -/

namespace Sys2Proof.Machine

/-- A flag at a bit position of the status word. -/
def flagBit (b : Bool) (pos : Nat) : Nat := if b then 2 ^ pos else 0

/-- The STATE field of the status word (R80). -/
def PlayState.code : PlayState → Nat
  | .idle => 0
  | .playing => 1
  | .completed => 2

/-- The FAULT_CODE field of the status word (R73, R80). -/
def FaultCode.code : FaultCode → Nat
  | .noFault => 0
  | .arenaRange => 1
  | .numeric => 2

/-- The configuration fields BACKEND, QUALITY and VIDEO of the status word, bits 13 to 15 (R80). -/
def configBits (c : Config) : Nat :=
  match c.backend with
  | .fp => flagBit (c.video == .ntsc) 15
  | .vr => 2 ^ 13 + flagBit (c.quality == .accurate) 14

/-- The status word (R80). Bits not listed read as 0. -/
def State.statusWord (s : State) : Word :=
  value (s.clk.state.code + flagBit s.clk.tickPending 2 + flagBit s.flr.fault 3 + s.flr.faultCode.code * 2 ^ 4
    + flagBit s.isSealed 8 + flagBit s.clk.loopSong 9 + flagBit s.flt.ledActive 10 + flagBit s.flt.ledForced 11
    + flagBit s.snk.sinkFull 12 + configBits s.cfg)

/-- The value READ returns for a selector, `none` for a selector the table does not have (R81). -/
def State.readable (s : State) (sel : Nat) : Option Nat :=
  match sel with
  | 0 => some s.lastProduced
  | 1 => some s.undrained
  | 2 => some s.clk.samplesPerTick
  | 3 => some s.clk.samplesRemainingInTick
  | 4 => some s.clk.remainingAfterCompletion
  | 5 => some s.clk.tempo
  | 6 => some s.clk.speed
  | 7 => some s.arenaLen
  | 8 => some s.snk.sinkAvail
  | 9 => some s.snk.drainShortfall
  | 10 => some s.flr.faultAddr
  | 11 => some s.rc.rProduced
  | _ => none

end Sys2Proof.Machine
end

