-- ==== Sys2Proof/Machine/OutputFilter.lean ====
section
/-! DEFINITION. The output filter (43_filter.md): two base one-pole stages, the switchable LED stage of two more passes, and SET_LED. -/

namespace Sys2Proof.Machine

/-- One one-pole stage: `s ← a·x + b·s`, products formed and added in this order (R401). -/
def onePole (a b x s : NUM) : NUM := NUM.fadd (NUM.fmul a x) (NUM.fmul b s)

/-- One side of FilterSample (R401): the new histories and the output. The LED histories move only while the LED stage runs
(R403). -/
def filterSide (c : Config) (led : Bool) (h : Stages) (x : NUM) : Stages × NUM :=
  let s1 := onePole c.filtA1 c.filtB1 x h.s1
  let s2 := onePole c.filtA2 c.filtB2 s1 h.s2
  if led then
    let s3 := onePole c.filtA3 c.filtB3 s2 h.s3
    let s4 := onePole c.filtA3 c.filtB3 s3 h.s4
    (⟨s1, s2, s3, s4⟩, s4)
  else ({ h with s1 := s1, s2 := s2 }, s2)

/-- FilterSample(i) on one accumulator entry (R401). -/
def filterSample (c : Config) (f : Filter) (a : Frame) : Filter × Frame :=
  let led := f.ledActive || f.ledForced
  let l := filterSide c led f.left a.l
  let r := filterSide c led f.right a.r
  ({ f with left := l.1, right := r.1 }, ⟨l.2, r.2⟩)

/-- FilterSample over the entries of a segment, in index order (R210, R402). -/
def filterFrames (c : Config) : Filter → List Frame → Filter × List Frame
  | f, [] => (f, [])
  | f, a :: rest =>
    let r := filterSample c f a
    let t := filterFrames c r.1 rest
    (t.1, r.2 :: t.2)

/-- `setled a, f` (R400). -/
def execSetled (d : Word) (s : State) : Answer :=
  guarded [(s.flr.fault, .faulted), (!(opLed d).isSome, .badValue)] s <|
    match opLed d with
    | some (a, f) => .next (({ s with flt := { s.flt with ledActive := a, ledForced := f } } : State).reply .ok 0)
    | none => .next (s.refuseWith .badValue)

end Sys2Proof.Machine
end

