-- ==== Sys2Proof/Machine/VariableRate.lean ====
section
/-! DEFINITION. The variable-rate engine (42_variable_rate.md): streams, per-sample mixing in both quality modes, and the
live-register, staging and trigger commands. -/

namespace Sys2Proof.Machine

/-- A stream is looped when its mode is not NONE and its loop length is not 0 (R54). -/
def Stream.looped (s : Stream) : Bool := s.loopMode != .noLoop && s.loopLength != 0

/-- `LE = loopStart + loopLength`, exact (R54). -/
def Stream.loopEnd (s : Stream) : Nat := s.loopStart + s.loopLength

/-- A position brought into a forward loop in the direction of travel (R321, R323). -/
def wrapForward (s : Stream) (p : Int) : Int :=
  let ls : Int := s.loopStart
  let le : Int := s.loopEnd
  let len : Int := s.loopLength
  match s.direction with
  | .ahead => if le ≤ p then ls + (p - le) % len else p
  | .backward => if p < ls then le - 1 - (ls - 1 - p) % len else p
  | .still => p

/-- A ping-pong position and direction after all reflections, by the closed form of R332 (log 15). -/
def reflect (s : Stream) (p : Int) : Int × Direction :=
  let ls : Int := s.loopStart
  let le : Int := s.loopEnd
  let len : Int := s.loopLength
  match s.direction with
  | .ahead =>
    if le ≤ p then
      let m := (p - le) % (2 * len)
      if m < len then (le - 1 - m, .backward) else (ls + m - len, .ahead)
    else (p, .ahead)
  | .backward =>
    if p < ls then
      let m := (ls - 1 - p) % (2 * len)
      if m < len then (ls + m, .ahead) else (le - 1 - (m - len), .backward)
    else (p, .backward)
  | .still => (p, .still)

/-- Resolve(s) (R321): the stream with its position brought back into its playable range, and whether it stops (STOP is `true`).
A stopped stream keeps the position that stopped it; `fraction` never changes. -/
def resolve (s : Stream) : Stream × Bool :=
  if !s.looped then (s, decide (s.pointer < 0) || decide ((s.length : Int) ≤ s.pointer))
  else if s.loopMode == .forward then ({ s with pointer := wrapForward s s.pointer }, false)
  else
    let r := reflect s s.pointer
    ({ s with pointer := r.1, direction := r.2 }, false)

/-- "Resolve the live stream": `if Resolve(v.live) = STOP: v.enabled <- false` (42_variable_rate.md, opening). -/
def VrVoice.resolveLive (v : VrVoice) : VrVoice :=
  let r := resolve v.live
  { v with live := r.1, enabled := v.enabled && !r.2 }

/-- The address an ArenaRangeFault reports for an offset (R322, R606): the offset saturated to 32 bits. For an offset below 0,
which R322 holds impossible but the register writes allow, the spec states no address: a free 32-bit value (log 16). -/
def faultOffset (a : Int) : Nat := if a < 0 then Config.freeFaultAddr a % 2 ^ 32 else min a.toNat 0xFFFFFFFF

/-- ReadSample(s, q) (R322): the sample value at position `q`, or the fault. -/
def readSample (m : Memory) (s : Stream) (q : Int) : Except MixStop NUM :=
  let a : Int := s.base + q
  if q < 0 then .error (.arenaRange (faultOffset a))
  else
    match m.read a.toNat with
    | some b => .ok (NUM.ofSample b)
    | none => .error (.arenaRange (faultOffset a))

/-- Partner(s) (R323): the position of the second interpolation point. -/
def partner (s : Stream) : Int :=
  let p := s.pointer
  let ls : Int := s.loopStart
  let le : Int := s.loopEnd
  if s.direction == .still then p
  else
    let q := p + s.direction.toInt
    if !s.looped then (if q < 0 ∨ (s.length : Int) ≤ q then p else q)
    else if s.loopMode == .forward then wrapForward s q
    else if s.direction == .ahead then (if le ≤ q then 2 * le - 1 - q else q)
    else (if q < ls then 2 * ls - 1 - q else q)

/-- Value(s) (R324): the sample value a stream contributes, interpolated in ACCURATE mode, the reads in the order written. -/
def streamValue (c : Config) (m : Memory) (s : Stream) : Except MixStop NUM :=
  match readSample m s s.pointer with
  | .error e => .error e
  | .ok x0 =>
    match c.quality with
    | .fast => .ok x0
    | .accurate =>
      match readSample m s (partner s) with
      | .error e => .error e
      | .ok x1 => .ok (NUM.fadd x0 (NUM.fmul (NUM.fsub x1 x0) s.fraction))

/-- AdvanceFast(s) (R325). -/
def advanceFast (s : Stream) : Stream :=
  let d := NUM.floor s.speed
  let f := NUM.fadd s.fraction (NUM.fsub s.speed (NUM.toNUM d))
  if NUM.fge f NUM.one then
    { s with fraction := NUM.fsub f NUM.one, pointer := s.pointer + s.direction.toInt * (d + 1) }
  else { s with fraction := f, pointer := s.pointer + s.direction.toInt * d }

/-- AdvanceAccurate(s) (R326). -/
def advanceAccurate (s : Stream) : Stream :=
  let f := NUM.fadd s.fraction s.speed
  let n := NUM.floor f
  { s with fraction := NUM.fsub f (NUM.toNUM n), pointer := s.pointer + s.direction.toInt * n }

/-- Advance(s), by quality mode (R325, R326). -/
def advance (c : Config) (s : Stream) : Stream :=
  match c.quality with
  | .fast => advanceFast s
  | .accurate => advanceAccurate s

/-- Gains(v) (R327): the linear pan law on the slewed volume and panning. -/
def gains (c : Config) (v : VrVoice) : NUM × NUM :=
  let gv := NUM.fmul (NUM.fdiv v.curVol NUM.c64) c.masterVr
  (NUM.fmul gv (NUM.fdiv (NUM.fsub NUM.c255 v.curPan) NUM.c255), NUM.fmul gv (NUM.fdiv v.curPan NUM.c255))

/-- The volume half of SlewStep(v) (R328). -/
def slewVolume (v : VrVoice) : VrVoice :=
  if 0 < v.volCounter then
    { v with
      volCounter := v.volCounter - 1
      curVol := if v.volCounter = 1 then NUM.toNUM v.volume else NUM.fadd v.curVol v.volumeRamp }
  else v

/-- The panning half of SlewStep(v) (R328). -/
def slewPanning (v : VrVoice) : VrVoice :=
  if 0 < v.panCounter then
    { v with
      panCounter := v.panCounter - 1
      curPan := if v.panCounter = 1 then NUM.toNUM v.panning else NUM.fadd v.curPan v.panningRamp }
  else v

/-- SlewStep(v) (R328). -/
def slewStep (v : VrVoice) : VrVoice := slewPanning (slewVolume v)

/-- The crossfade counters and ramps of one sample (R329, R330): `rampUp = gain × k/220`, `rampDown = oldGain × c/220`, with `c` the
decremented counter and `k = 220 − c`. -/
def rampStep (g : NUM × NUM) (v : VrVoice) : VrVoice :=
  let n := v.mixCounter - 1
  let kU := NUM.fdiv (NUM.toNUM ((xfadeLen : Int) - n)) NUM.c220
  let kD := NUM.fdiv (NUM.toNUM n) NUM.c220
  { v with
    mixCounter := n
    mixRampUpL := NUM.fmul g.1 kU
    mixRampUpR := NUM.fmul g.2 kU
    mixRampDownL := NUM.fmul v.oldGainL kD
    mixRampDownR := NUM.fmul v.oldGainR kD }

/-- The value of the outgoing stream of a crossfade, +0.0 once it has been dropped (R329). -/
def oldValue (c : Config) (m : Memory) (v : VrVoice) : Except MixStop NUM :=
  if v.oldActive then streamValue c m v.old else .ok 0#32

/-- The outgoing stream after a crossfade sample: it advances, and it is dropped when it stops or when the crossfade ends (R329). -/
def oldStep (c : Config) (v : VrVoice) : VrVoice :=
  if v.oldActive then
    let r := resolve (advance c v.old)
    { v with old := r.1, oldActive := !r.2 && v.mixCounter != 0 }
  else v

/-- The crossfaded contribution `new × rampUp + old × rampDown` of one side (R329). -/
def blend (sN up sO down : NUM) : NUM := NUM.fadd (NUM.fmul sN up) (NUM.fmul sO down)

/-- The part of VRVoiceSample that gives the live `(l, r)` (R329): slew, gains, the values, and the crossfade. -/
def vrContribution (c : Config) (m : Memory) (v : VrVoice) : VrVoice × Except MixStop (NUM × NUM) :=
  let v1 := slewStep v
  let g := gains c v1
  match streamValue c m v1.live with
  | .error e => (v1, .error e)
  | .ok sN =>
    if 0 < v1.mixCounter then
      let v2 := rampStep g v1
      match oldValue c m v2 with
      | .error e => (v2, .error e)
      | .ok sO =>
        (oldStep c v2, .ok (blend sN v2.mixRampUpL sO v2.mixRampDownL, blend sN v2.mixRampUpR sO v2.mixRampDownR))
    else (v1, .ok (NUM.fmul sN g.1, NUM.fmul sN g.2))

/-- The live stream's advance and self-disable at the end of a sample (R329). -/
def liveStep (c : Config) (v : VrVoice) : VrVoice := VrVoice.resolveLive { v with live := advance c v.live }

/-- The held values after a sample (R329, R331). What the voice adds to the accumulator is the held values after this. -/
def vrHold (lr : NUM × NUM) (v : VrVoice) : VrVoice := if v.mute then v else { v with heldL := lr.1, heldR := lr.2 }

/-- VRVoiceSample(v, i) (R329). -/
def vrVoiceSample (c : Config) (m : Memory) (v : VrVoice) (a : Frame) : Mixed VrVoice Frame :=
  if !v.enabled then ⟨v, a, none⟩
  else
    match vrContribution c m v with
    | (w, .error e) => ⟨w, a, some e⟩
    | (w, .ok lr) =>
      let h := vrHold lr (liveStep c w)
      ⟨h, addFrame a h.heldL h.heldR, none⟩

/-- Whether a volume or panning write is slewed: ACCURATE mode, a sounding voice, no crossfade (R304, R305, D20). -/
def slewed (c : Config) (v : VrVoice) : Bool := c.quality == .accurate && v.enabled && v.mixCounter == 0

/-- The ramp of a slew: `fdiv(fsub(target, current), toNUM(samplesPerTick))` (R304, R305). -/
def rampOf (target : Nat) (current : NUM) (spt : Nat) : NUM :=
  NUM.fdiv (NUM.fsub (NUM.toNUM target) current) (NUM.toNUM spt)

/-- VR_SET_ENABLED on a voice (R300). Enabling a silent voice also clears a crossfade that stopping left set: R317's corner case says so,
and R300's says that an enable has no crossfade (log 20). -/
def vrSetEnabled (b : Bool) (v : VrVoice) : VrVoice :=
  if b then (if v.enabled then v else VrVoice.resolveLive { v with enabled := true, mixCounter := 0, oldActive := false })
  else { v with enabled := false, mixCounter := 0, oldActive := false }

/-- A write to the live stream that moves it: resolved at once on a sounding voice (R302, R306 to R310). -/
def vrMoveLive (f : Stream → Stream) (v : VrVoice) : VrVoice :=
  let w := { v with live := f v.live }
  if v.enabled then w.resolveLive else w

/-- VR_SET_VOLUME on a voice (R304). -/
def vrSetVolume (c : Config) (spt : Nat) (n : Nat) (v : VrVoice) : VrVoice :=
  if slewed c v then { v with volume := n, volCounter := spt, volumeRamp := rampOf n v.curVol spt }
  else { v with volume := n, curVol := NUM.toNUM n, volCounter := 0, volumeRamp := 0#32 }

/-- VR_SET_PANNING on a voice (R305). -/
def vrSetPanning (c : Config) (spt : Nat) (n : Nat) (v : VrVoice) : VrVoice :=
  if slewed c v then { v with panning := n, panCounter := spt, panningRamp := rampOf n v.curPan spt }
  else { v with panning := n, curPan := NUM.toNUM n, panCounter := 0, panningRamp := 0#32 }

/-- The first half of VR_TRIGGER: in ACCURATE mode a sounding voice starts a crossfade from its live stream, else there is no
crossfade (R317, D19). -/
def vrSnapshot (c : Config) (v : VrVoice) : VrVoice :=
  if c.quality == .accurate && v.enabled then
    let g := gains c v
    { v with
      oldGainL := if 0 < v.mixCounter then v.mixRampUpL else g.1
      oldGainR := if 0 < v.mixCounter then v.mixRampUpR else g.2
      old := v.live
      oldActive := true
      mixCounter := xfadeLen }
  else { v with oldActive := false, mixCounter := 0 }

/-- The second half of VR_TRIGGER: the staging bank becomes the live stream at the start position, the speed is kept, the voice is
enabled and the stream resolved (R317, D18). -/
def vrStart (start : Nat) (v : VrVoice) : VrVoice :=
  VrVoice.resolveLive
    { v with
      live :=
        { base := v.nextBase
          length := v.nextLength
          loopStart := v.nextLoopStart
          loopLength := v.nextLoopLength
          loopMode := v.nextLoopMode
          pointer := start
          fraction := 0#32
          direction := .ahead
          speed := v.live.speed }
      enabled := true }

/-- `vr.enable v, b` (R300). -/
def execVrEnable (v : BitVec 8) (d : Word) (s : State) : Answer := vrWrite v (opBool d) vrSetEnabled s

/-- `vr.speed v, x` (R301). -/
def execVrSpeed (v : BitVec 8) (d : Word) (s : State) : Answer :=
  vrWrite v (opSpeed d) (fun x w => { w with live := { w.live with speed := x } }) s

/-- `vr.direction v, d` (R302). -/
def execVrDirection (v : BitVec 8) (d : Word) (s : State) : Answer :=
  vrWrite v (opDir d) (fun x => vrMoveLive fun l => { l with direction := x }) s

/-- `vr.fraction v, x` (R303). -/
def execVrFraction (v : BitVec 8) (d : Word) (s : State) : Answer :=
  vrWrite v (opFraction d) (fun x w => { w with live := { w.live with fraction := x } }) s

/-- `vr.volume v, x` (R304). -/
def execVrVolume (v : BitVec 8) (d : Word) (s : State) : Answer :=
  vrWrite v (some (opClamp 0 64 d)) (vrSetVolume s.cfg s.clk.samplesPerTick) s

/-- `vr.panning v, x` (R305). -/
def execVrPanning (v : BitVec 8) (d : Word) (s : State) : Answer :=
  vrWrite v (some (opClamp 0 255 d)) (vrSetPanning s.cfg s.clk.samplesPerTick) s

/-- `vr.pointer v, a` (R306). -/
def execVrPointer (v : BitVec 8) (d : Word) (s : State) : Answer :=
  vrWrite v (some (opU32 d)) (fun a => vrMoveLive fun l => { l with pointer := a }) s

/-- `vr.length v, n` (R307). -/
def execVrLength (v : BitVec 8) (d : Word) (s : State) : Answer :=
  vrWrite v (some (opU32 d)) (fun n => vrMoveLive fun l => { l with length := n }) s

/-- `vr.loopstart v, a` (R308). -/
def execVrLoopStart (v : BitVec 8) (d : Word) (s : State) : Answer :=
  vrWrite v (some (opU32 d)) (fun a => vrMoveLive fun l => { l with loopStart := a }) s

/-- `vr.looplength v, n` (R309). -/
def execVrLoopLength (v : BitVec 8) (d : Word) (s : State) : Answer :=
  vrWrite v (some (opU32 d)) (fun n => vrMoveLive fun l => { l with loopLength := n }) s

/-- `vr.loopmode v, m` (R310). -/
def execVrLoopMode (v : BitVec 8) (d : Word) (s : State) : Answer :=
  vrWrite v (opLoopMode d) (fun m => vrMoveLive fun l => { l with loopMode := m }) s

/-- `vr.mute v, b` (R311). -/
def execVrMute (v : BitVec 8) (d : Word) (s : State) : Answer :=
  vrWrite v (opBool d) (fun b w => { w with mute := b }) s

/-- `vr.nbase v, a` (R312). -/
def execVrNextBase (v : BitVec 8) (d : Word) (s : State) : Answer :=
  vrWrite v (some (opU32 d)) (fun a w => { w with nextBase := a }) s

/-- `vr.nlength v, n` (R313). -/
def execVrNextLength (v : BitVec 8) (d : Word) (s : State) : Answer :=
  vrWrite v (some (opU32 d)) (fun n w => { w with nextLength := n }) s

/-- `vr.nloopstart v, a` (R314). -/
def execVrNextLoopStart (v : BitVec 8) (d : Word) (s : State) : Answer :=
  vrWrite v (some (opU32 d)) (fun a w => { w with nextLoopStart := a }) s

/-- `vr.nlooplength v, n` (R315). -/
def execVrNextLoopLength (v : BitVec 8) (d : Word) (s : State) : Answer :=
  vrWrite v (some (opU32 d)) (fun n w => { w with nextLoopLength := n }) s

/-- `vr.nloopmode v, m` (R316). -/
def execVrNextLoopMode (v : BitVec 8) (d : Word) (s : State) : Answer :=
  vrWrite v (opLoopMode d) (fun m w => { w with nextLoopMode := m }) s

/-- `vr.trigger v, s` (R317). -/
def execVrTrigger (v : BitVec 8) (d : Word) (s : State) : Answer :=
  vrWrite v (some (opU32 d)) (fun start w => vrStart start (vrSnapshot s.cfg w)) s

end Sys2Proof.Machine
end

