-- ==== Sys2Proof/Machine/PlaybackClock.lean ====
section
/-! DEFINITION. The playback clock and render control (44_clock.md), and RESET (70_reset_and_hazards.md R700). -/

namespace Sys2Proof.Machine

/-- MixSegment(i0, seg) on the fixed-period backend: the voices, then the filter over the segment (R210, R402, R454). -/
def mixSegmentFp (i0 seg : Nat) (s : State) : State × Option MixStop :=
  let m := mixVoices (fpVoiceSample s.cfg s.arena) s.fp (framesAt s.acc i0 seg)
  match m.stop with
  | some e => ({ s with fp := m.voices, acc := putFrames s.acc i0 seg m.frames }, some e)
  | none =>
    let r := filterFrames s.cfg s.flt m.frames
    ({ s with fp := m.voices, flt := r.1, acc := putFrames s.acc i0 seg r.2 }, none)

/-- MixSegment(i0, seg) on the variable-rate backend: the voices, no filter (R320, R402, R454). -/
def mixSegmentVr (i0 seg : Nat) (s : State) : State × Option MixStop :=
  let m := mixVoices (vrVoiceSample s.cfg s.arena) s.vr (framesAt s.acc i0 seg)
  ({ s with vr := m.voices, acc := putFrames s.acc i0 seg m.frames }, m.stop)

/-- MixSegment(i0, seg) with the instance's backend (R454). -/
def mixSegment (i0 seg : Nat) (s : State) : State × Option MixStop :=
  match s.cfg.backend with
  | .fp => mixSegmentFp i0 seg s
  | .vr => mixSegmentVr i0 seg s

/-- The length of the next segment: `min(samplesRemainingInTick, rTarget − rProduced)` (R455). -/
def State.segLength (s : State) : Nat := min s.clk.samplesRemainingInTick (s.rc.rTarget - s.rc.rProduced)

/-- The counters after a whole segment of `seg` frames (R455). -/
def State.countSegment (seg : Nat) (s : State) : State :=
  { s with
    rc := { s.rc with rProduced := s.rc.rProduced + seg }
    clk := { s.clk with samplesRemainingInTick := s.clk.samplesRemainingInTick - seg }
    lastProduced := s.rc.rProduced + seg }

/-- What Run does at a tick boundary with frames still to produce (R455): in the Completed state the pass ends with the frames it
has (R457), else the tick request is raised (R611). -/
def atBoundary (s : State) : State :=
  if s.clk.state = .completed then endPass { s with rc := { s.rc with rTarget := s.rc.rProduced } }
  else tickEntry s

/-- Run's loop test when the tick's samples are used up or the target is reached: end of the pass, or tick boundary (R455). -/
def afterSegment (s : State) : State :=
  if s.rc.rProduced < s.rc.rTarget then atBoundary s else endPass s

/-- Run() (R455). One call mixes at most one segment: a segment uses up the tick's samples or reaches the target, and either ends the
loop. `run_loop` in `Laws/Run.lean` proves that this is the `while` loop of R455 (log 10). A RENDER in the Completed state with samples
left in the last tick mixes them, as R455 and R451 have it; R457's and R717's prose, that later RENDERs produce nothing, is read as
speaking of after that tick (DEDUCED, log 24). -/
def run (s : State) : Answer :=
  if s.rc.rProduced < s.rc.rTarget ∧ s.clk.samplesRemainingInTick ≠ 0 then
    let seg := s.segLength
    match mixSegment s.rc.rProduced seg s with
    | (t, some e) => stopMixing e t
    | (t, none) => .next (afterSegment (t.countSegment seg))
  else .next (afterSegment s)

/-- The start of a render pass of `n` frames (R453). -/
def State.startPass (n : Nat) (s : State) : State :=
  { s with
    isSealed := true
    acc := s.acc.map fun _ => Frame.zero
    lastProduced := 0
    drainPos := 0
    rc := { rActive := true, rRequested := n, rTarget := n, rProduced := 0 } }

/-- `reset` (R700): every register at its reset value, then `OK(0)`. DATA is ignored, and RESET is never refused. -/
def execReset (d : Word) (s : State) : Answer :=
  let _ := opAny d
  .next (s.resetRegisters.reply .ok 0)

/-- `init` (R450). -/
def execInit (d : Word) (s : State) : Answer :=
  guarded [(s.flr.fault, .faulted), (s.clk.tickPending, .busy), (!(opZero d).isSome, .badValue)] s <|
    .next (s.initRegisters.reply .ok 0)

/-- RENDER's checks, in order (R451, R452, R615). -/
def renderChecks (n : Nat) (s : State) : List (Bool × Status) :=
  [(s.flr.fault, .faulted), (s.clk.tickPending, .busy), (s.clk.state == .idle, .notInitialized),
    (decide (s.cfg.chunkN < n), .chunkOverflow), (decide (0 < s.undrained), .undrained)]

/-- `render n` (R451). -/
def execRender (d : Word) (s : State) : Answer :=
  guarded (renderChecks (opU32 d) s) s <| run (s.startPass (opU32 d))

/-- `tickdone e` (R456). -/
def execTickdone (d : Word) (s : State) : Answer :=
  guarded [(s.flr.fault, .faulted), (!s.clk.tickPending, .noTick), (!(opBool d).isSome, .badValue)] s <|
    match opBool d with
    | some e => run (tickReturn e s)
    | none => .next (s.refuseWith .badValue)

/-- `settempo t` (R458). -/
def execSettempo (d : Word) (s : State) : Answer :=
  guarded [(s.flr.fault, .faulted), (!(opRange 1 65535 d).isSome, .badValue)] s <|
    match opRange 1 65535 d with
    | some t => .next (({ s with clk := { s.clk with tempo := t, samplesPerTick := tempoBase / t } } : State).reply .ok 0)
    | none => .next (s.refuseWith .badValue)

/-- `setspeed s` (R459). -/
def execSetspeed (d : Word) (s : State) : Answer :=
  guarded [(s.flr.fault, .faulted), (!(opRange 0 255 d).isSome, .badValue)] s <|
    match opRange 0 255 d with
    | some n => .next (({ s with clk := { s.clk with speed := n } } : State).reply .ok 0)
    | none => .next (s.refuseWith .badValue)

/-- `setloop b` (R460). -/
def execSetloop (d : Word) (s : State) : Answer :=
  guarded [(s.flr.fault, .faulted), (!(opBool d).isSome, .badValue)] s <|
    match opBool d with
    | some b => .next (({ s with clk := { s.clk with loopSong := b } } : State).reply .ok 0)
    | none => .next (s.refuseWith .badValue)

/-- `status` (R461): accepted in the fault state and while a tick is pending. -/
def execStatus (d : Word) (s : State) : Answer :=
  guarded [(!(opZero d).isSome, .badValue)] s <| .next (s.reply .ok s.statusWord)

/-- `read sel` (R462): accepted in the fault state and while a tick is pending. -/
def execRead (d : Word) (s : State) : Answer :=
  guarded [(!(opRange 0 11 d).isSome, .badValue)] s <|
    match s.readable (opU32 d) with
    | some n => .next (s.reply .ok (value n))
    | none => .next (s.refuseWith .badValue)

end Sys2Proof.Machine
end

