-- ==== Sys2Proof/Machine/SampleArena.lean ====
section
/-! DEFINITION. STORE (46_arena.md): the append to the sample arena. -/

namespace Sys2Proof.Machine

/-- The bytes a STORE of `n` appends: what the payload holds from its position on, at most `n` bytes (R550, R551). -/
def State.storeBytes (n : Nat) (s : State) : List Byte := (s.port.src.drop s.port.pos).take n

/-- `store n` with the payload of the command (R550): refused whole, or appended, answering the base offset. -/
def execStore (d : Word) (s : State) : Answer :=
  let bs := s.storeBytes (opU32 d)
  guarded
    [(s.flr.fault, .faulted), (s.clk.tickPending, .busy), (s.isSealed, .arenaSealed),
      (decide (s.cfg.arenaCap < s.arenaLen + bs.length), .arenaFull)] s <|
    .next (({ s with arena := s.arena.append bs } : State).reply .ok (value s.arenaLen))

end Sys2Proof.Machine
end

