-- ==== Sys2Proof/Machine/Dispatch.lean ====
section
/-! DEFINITION. The dispatch of commands to their meanings, one arm per row of spec/opcode_table.json. -/

namespace Sys2Proof.Machine

/-- What a decoded command does. -/
def exec (i : Instr) (s : State) : Host.Outcome State Fault Refusal :=
  match i with
  | .reset d => Sys2Proof.Machine.execReset d s
  | .init d => Sys2Proof.Machine.execInit d s
  | .render d => Sys2Proof.Machine.execRender d s
  | .tickdone d => Sys2Proof.Machine.execTickdone d s
  | .drain d => Sys2Proof.Machine.execDrain d s
  | .setsink d => Sys2Proof.Machine.execSetsink d s
  | .store d => Sys2Proof.Machine.execStore d s
  | .settempo d => Sys2Proof.Machine.execSettempo d s
  | .setspeed d => Sys2Proof.Machine.execSetspeed d s
  | .setloop d => Sys2Proof.Machine.execSetloop d s
  | .setled d => Sys2Proof.Machine.execSetled d s
  | .status d => Sys2Proof.Machine.execStatus d s
  | .read d => Sys2Proof.Machine.execRead d s
  | .fpEnable v d => Sys2Proof.Machine.execFpEnable v d s
  | .fpPeriod v d => Sys2Proof.Machine.execFpPeriod v d s
  | .fpVolume v d => Sys2Proof.Machine.execFpVolume v d s
  | .fpPointer v d => Sys2Proof.Machine.execFpPointer v d s
  | .fpLength v d => Sys2Proof.Machine.execFpLength v d s
  | .fpLoopPointer v d => Sys2Proof.Machine.execFpLoopPointer v d s
  | .fpLoopLength v d => Sys2Proof.Machine.execFpLoopLength v d s
  | .fpMute v d => Sys2Proof.Machine.execFpMute v d s
  | .fpPanning v d => Sys2Proof.Machine.execFpPanning v d s
  | .vrEnable v d => Sys2Proof.Machine.execVrEnable v d s
  | .vrSpeed v d => Sys2Proof.Machine.execVrSpeed v d s
  | .vrDirection v d => Sys2Proof.Machine.execVrDirection v d s
  | .vrFraction v d => Sys2Proof.Machine.execVrFraction v d s
  | .vrVolume v d => Sys2Proof.Machine.execVrVolume v d s
  | .vrPanning v d => Sys2Proof.Machine.execVrPanning v d s
  | .vrPointer v d => Sys2Proof.Machine.execVrPointer v d s
  | .vrLength v d => Sys2Proof.Machine.execVrLength v d s
  | .vrLoopStart v d => Sys2Proof.Machine.execVrLoopStart v d s
  | .vrLoopLength v d => Sys2Proof.Machine.execVrLoopLength v d s
  | .vrLoopMode v d => Sys2Proof.Machine.execVrLoopMode v d s
  | .vrMute v d => Sys2Proof.Machine.execVrMute v d s
  | .vrNextBase v d => Sys2Proof.Machine.execVrNextBase v d s
  | .vrNextLength v d => Sys2Proof.Machine.execVrNextLength v d s
  | .vrNextLoopStart v d => Sys2Proof.Machine.execVrNextLoopStart v d s
  | .vrNextLoopLength v d => Sys2Proof.Machine.execVrNextLoopLength v d s
  | .vrNextLoopMode v d => Sys2Proof.Machine.execVrNextLoopMode v d s
  | .vrTrigger v d => Sys2Proof.Machine.execVrTrigger v d s

end Sys2Proof.Machine
end

