-- ==== Sys2Proof/Machine/Step.lean ====
section
/-! DEFINITION. One step of the machine: the block takes the next command the host has issued, decodes it and executes it
(R109, R140, R143). -/

namespace Sys2Proof.Machine

/-- One step. With no command issued the block waits (R701, log 2); an ILLEGAL pair is answered with that status and nothing else
changes (R143, R144); a decoded command has its meaning. -/
def step (s : State) : Host.Outcome State Fault Refusal :=
  match s.port.inbox with
  | [] => .next s
  | c :: rest =>
    match decode s.cfg.backend c.cmd c.data with
    | .error _ => .next ((s.takeCommand c rest).refuseWith .illegal)
    | .ok i => exec i (s.takeCommand c rest)

/-- The state with the instruction whose bits are `w` as the next command, without a STORE payload. A word of the other backend's
family is no instruction of this instance (R143), so the instance becomes one of that backend (log 3). -/
def State.withFetchWord (s : State) (nbits w : Nat) : State :=
  (s.selectBackend (decodeTableWord nbits w)).pushCommand (tablePair nbits w)

end Sys2Proof.Machine
end

