-- ==== Sys2Proof/Machine/Assembler.lean ====
section
/-! DEFINITION. The assembler and the disassembler of 30_encoding.md R149 and R150, as functions on character lists. What R149 leaves
open of the syntax is fixed here (log 23). -/

namespace Sys2Proof

/-- A piece of assembler text. -/
abbrev Text := List Char

/-- Why a line does not assemble. -/
inductive AsmError where
  /-- no such mnemonic or pseudo-instruction -/
  | mnemonic
  /-- the wrong number of operands -/
  | operandCount
  /-- not `v<n>` with `n` below 256 -/
  | voice
  /-- not an integer that fits 32 bits -/
  | integer
  /-- not a decimal literal and not a raw pattern of 8 hex digits -/
  | number
  /-- not `@<label>`, or a start position that is no integer or below 0 -/
  | payload
deriving DecidableEq, Repr

/-- How an operand is written (R149). -/
inductive AsmKind where
  /-- an integer printed as unsigned: the kinds U32, RANGE and BOOL -/
  | unsigned
  /-- an integer printed as signed, as R148 reads it: the kinds CLAMP and DIR (log 23) -/
  | signed
  /-- the kind F32 -/
  | float
  /-- two bools: the kind LED -/
  | led
  /-- no operand: the kinds ZERO and ANY -/
  | nothing
  /-- a length and a payload: STORE -/
  | stored
deriving DecidableEq, Repr

/-- A mnemonic, its opcode and the way its operand is written (R146, R149). -/
structure AsmRow where
  name : Text
  op : Nat
  kind : AsmKind
deriving DecidableEq, Repr

/-- The control mnemonics (R146). -/
def asmControl : List AsmRow :=
  [⟨"reset".toList, 0x01, .nothing⟩, ⟨"init".toList, 0x02, .nothing⟩, ⟨"render".toList, 0x03, .unsigned⟩,
    ⟨"tickdone".toList, 0x04, .unsigned⟩, ⟨"drain".toList, 0x05, .unsigned⟩, ⟨"setsink".toList, 0x06, .unsigned⟩,
    ⟨"store".toList, 0x07, .stored⟩, ⟨"settempo".toList, 0x08, .unsigned⟩, ⟨"setspeed".toList, 0x09, .unsigned⟩,
    ⟨"setloop".toList, 0x0A, .unsigned⟩, ⟨"setled".toList, 0x0B, .led⟩, ⟨"status".toList, 0x0C, .nothing⟩,
    ⟨"read".toList, 0x0D, .unsigned⟩]

/-- The fixed-period mnemonics (R146). -/
def asmFp : List AsmRow :=
  [⟨"fp.enable".toList, 0x10, .unsigned⟩, ⟨"fp.period".toList, 0x11, .signed⟩, ⟨"fp.volume".toList, 0x12, .signed⟩,
    ⟨"fp.pointer".toList, 0x13, .unsigned⟩, ⟨"fp.length".toList, 0x14, .unsigned⟩,
    ⟨"fp.looppointer".toList, 0x15, .unsigned⟩, ⟨"fp.looplength".toList, 0x16, .unsigned⟩,
    ⟨"fp.mute".toList, 0x17, .unsigned⟩, ⟨"fp.panning".toList, 0x18, .float⟩]

/-- The variable-rate mnemonics (R146). -/
def asmVr : List AsmRow :=
  [⟨"vr.enable".toList, 0x20, .unsigned⟩, ⟨"vr.speed".toList, 0x21, .float⟩, ⟨"vr.direction".toList, 0x22, .signed⟩,
    ⟨"vr.fraction".toList, 0x23, .float⟩, ⟨"vr.volume".toList, 0x24, .signed⟩, ⟨"vr.panning".toList, 0x25, .signed⟩,
    ⟨"vr.pointer".toList, 0x26, .unsigned⟩, ⟨"vr.length".toList, 0x27, .unsigned⟩,
    ⟨"vr.loopstart".toList, 0x28, .unsigned⟩, ⟨"vr.looplength".toList, 0x29, .unsigned⟩,
    ⟨"vr.loopmode".toList, 0x2A, .unsigned⟩, ⟨"vr.mute".toList, 0x2B, .unsigned⟩, ⟨"vr.nbase".toList, 0x30, .unsigned⟩,
    ⟨"vr.nlength".toList, 0x31, .unsigned⟩, ⟨"vr.nloopstart".toList, 0x32, .unsigned⟩,
    ⟨"vr.nlooplength".toList, 0x33, .unsigned⟩, ⟨"vr.nloopmode".toList, 0x34, .unsigned⟩,
    ⟨"vr.trigger".toList, 0x35, .unsigned⟩]

/-- Every mnemonic (R146). -/
def asmTable : List AsmRow := asmControl ++ asmFp ++ asmVr

/-! ### Reading -/

/-- The value of a digit character in a base up to 16. -/
def digitOf (base : Nat) (c : Char) : Option Nat :=
  let n := c.toNat
  let d := if 48 ≤ n ∧ n ≤ 57 then n - 48 else if 65 ≤ n ∧ n ≤ 70 then n - 55 else if 97 ≤ n ∧ n ≤ 102 then n - 87 else 16
  if d < base then some d else none

/-- The digits of a text, read on from a value. -/
def readDigits (base : Nat) : Nat → Text → Option Nat
  | acc, [] => some acc
  | acc, c :: cs =>
    match digitOf base c with
    | some d => readDigits base (acc * base + d) cs
    | none => none

/-- A natural number: one digit or more. -/
def readNat (base : Nat) (t : Text) : Option Nat := if t.isEmpty then none else readDigits base 0 t

/-- An integer operand: decimal, with `-` if negative, or `0x` hexadecimal (R149). -/
def readInt (t : Text) : Option Int :=
  match t with
  | '-' :: r => (readNat 10 r).map fun n => -(n : Int)
  | '0' :: 'x' :: r => (readNat 16 r).map Int.ofNat
  | _ => (readNat 10 t).map Int.ofNat

/-- The data word of an integer operand that fits 32 bits, signed or unsigned (R148, log 23). -/
def readWord (t : Text) : Except AsmError Word :=
  match readInt t with
  | some i => if -(2 ^ 31) ≤ i ∧ i < 2 ^ 32 then .ok (BitVec.ofInt 32 i) else .error .integer
  | none => .error .integer

/-- The text before the first character that satisfies `p`, and what follows that character. -/
def splitAtChar (p : Char → Bool) : Text → Text × Option Text
  | [] => ([], none)
  | c :: cs =>
    if p c then ([], some cs)
    else
      let r := splitAtChar p cs
      (c :: r.1, r.2)

/-- `toNUM(± m × 10^k)` (R11). -/
def ofDecimal (neg : Bool) (m : Nat) (k : Int) : NUM :=
  if 0 ≤ k then NUM.ofRat neg (m * 10 ^ k.toNat * NUM.one149) 1 else NUM.ofRat neg (m * NUM.one149) (10 ^ (-k).toNat)

/-- An exponent `e<n>`, `e+<n>` or `e-<n>` (log 23). -/
def readExponent (t : Text) : Option Int :=
  match t with
  | '+' :: r => (readNat 10 r).map Int.ofNat
  | '-' :: r => (readNat 10 r).map fun n => -(n : Int)
  | _ => (readNat 10 t).map Int.ofNat

/-- An unsigned decimal literal: digits, a point and digits if there is a fraction, and an exponent if there is one. -/
def readDecimal (neg : Bool) (t : Text) : Option NUM :=
  let me := splitAtChar (fun c => c == 'e' || c == 'E') t
  let fp := splitAtChar (fun c => c == '.') me.1
  let fracDigits := fp.2.getD []
  match (if fp.1.isEmpty || fp.2 == some [] then none else readDigits 10 0 (fp.1 ++ fracDigits)),
      (match me.2 with | none => some 0 | some e => readExponent e) with
  | some m, some e => some (ofDecimal neg m (e - fracDigits.length))
  | _, _ => none

/-- An `F32` operand: `0x` and 8 hex digits as a raw pattern, or a decimal literal converted with `toNUM` (R149). -/
def readF32 (t : Text) : Except AsmError Word :=
  let r :=
    match t with
    | '0' :: 'x' :: h => if h.length = 8 then (readNat 16 h).map (BitVec.ofNat 32) else none
    | '-' :: d => readDecimal true d
    | _ => readDecimal false t
  match r with
  | some w => .ok w
  | none => .error .number

/-- A voice operand `v<n>` (R149). -/
def readVoice (t : Text) : Except AsmError (BitVec 8) :=
  match t with
  | 'v' :: r =>
    match readNat 10 r with
    | some n => if n < 256 then .ok (BitVec.ofNat 8 n) else .error .voice
    | none => .error .voice
  | _ => .error .voice

/-- A bool operand, as a bit (R149). -/
def readBit (t : Text) : Except AsmError Nat :=
  match t with
  | ['0'] => .ok 0
  | ['1'] => .ok 1
  | _ => .error .integer

/-- A command pair with the payload label and start position that a STORE names (R149). It is a pair and not an `Instr`, because
`.illegal` writes pairs that decode to none (log 23). -/
structure AsmCommand where
  cmd : Word
  data : Word
  payload : Option (Text × Nat)
deriving DecidableEq, Repr

/-- A white-space character. -/
def isBlank (c : Char) : Bool := c == ' ' || c == '\t' || c == '\r'

/-- A text without the white space at its two ends. -/
def trim (t : Text) : Text := ((t.dropWhile isBlank).reverse.dropWhile isBlank).reverse

/-- The pieces of a text between the characters that satisfy `p`. -/
def splitAll (p : Char → Bool) : Text → List Text
  | [] => [[]]
  | c :: cs =>
    if p c then [] :: splitAll p cs
    else
      match splitAll p cs with
      | [] => [[c]]
      | t :: ts => (c :: t) :: ts

/-- The payload operands of a STORE, `@<label>` and a start position (R149, R550). R149 does not say how `<pos>` is written: it is read
as an integer operand is, decimal or `0x` hexadecimal, and refused below 0 (DESIGN CHOICE, log 23). -/
def readPayload (label pos : Text) : Except AsmError (Text × Nat) :=
  match label, readInt pos with
  | '@' :: l, some n => if l.isEmpty ∨ n < 0 then .error .payload else .ok (l, n.toNat)
  | _, _ => .error .payload

/-- The data word, and the payload, that the operands after the voice give (R149). A raw data word stands where the syntax of R149 has
no form for it, and a STORE may leave its payload unnamed (log 23). -/
def readData (k : AsmKind) (ops : List Text) : Except AsmError (Word × Option (Text × Nat)) :=
  match k, ops with
  | .unsigned, [t] => (readWord t).map (·, none)
  | .signed, [t] => (readWord t).map (·, none)
  | .float, [t] => (readF32 t).map (·, none)
  | .led, [a, f] =>
    match readBit a, readBit f with
    | .ok x, .ok y => .ok (BitVec.ofNat 32 (x + 2 * y), none)
    | _, _ => .error .integer
  | .led, [t] => (readWord t).map (·, none)
  | .nothing, [] => .ok (0, none)
  | .nothing, [t] => (readWord t).map (·, none)
  | .stored, [t] => (readWord t).map (·, none)
  | .stored, [t, l, p] =>
    match readWord t, readPayload l p with
    | .ok w, .ok q => .ok (w, some q)
    | .error e, _ => .error e
    | _, .error e => .error e
  | _, _ => .error .operandCount

/-- The assembled form of a command (R147). -/
def asmOf (i : Instr) (payload : Option (Text × Nat)) : AsmCommand := ⟨(encode i).1, (encode i).2, payload⟩

/-- One command of the opcode table (R146, R149). -/
def assembleRow (r : AsmRow) (ops : List Text) : Except AsmError AsmCommand :=
  match opRow r.op, ops with
  | some (.control make), _ => (readData r.kind ops).map fun d => asmOf (make d.1) d.2
  | some (.voice make), v :: rest =>
    match readVoice v with
    | .ok n => (readData r.kind rest).map fun d => asmOf (make n d.1) d.2
    | .error e => .error e
  | some (.voice _), [] => .error .operandCount
  | none, _ => .error .mnemonic

/-- `.illegal 0x<CMD>, 0x<DATA>`, the form R150 prints: two integer operands, taken as the pair they are. R149 does not list it among what
the assembler reads, and 95_test_vectors.md writes it as an assembler form (E-11, X-8): the model reads it (DESIGN CHOICE, log 23). -/
def assembleRaw (ops : List Text) : Except AsmError AsmCommand :=
  match ops with
  | [c, d] =>
    match readWord c, readWord d with
    | .ok x, .ok y => .ok ⟨x, y, none⟩
    | .error e, _ => .error e
    | _, .error e => .error e
  | _ => .error .operandCount

/-- One command by its mnemonic, or a raw pair. -/
def assembleCommand (name : Text) (ops : List Text) : Except AsmError AsmCommand :=
  if name = ".illegal".toList then assembleRaw ops
  else
    match asmTable.find? fun r => r.name == name with
    | some r => assembleRow r ops
    | none => .error .mnemonic

/-- Several commands, in order; the first error is the error of all. -/
def assembleAll : List (Text × List Text) → Except AsmError (List AsmCommand)
  | [] => .ok []
  | (n, ops) :: rest =>
    match assembleCommand n ops, assembleAll rest with
    | .ok c, .ok cs => .ok (c :: cs)
    | .error e, _ => .error e
    | _, .error e => .error e

/-- The expansion of a pseudo-instruction; any other mnemonic stands for itself (R149). -/
def expand (name : Text) (ops : List Text) : Except AsmError (List (Text × List Text)) :=
  let zero := "0".toList
  let one := "1".toList
  if name = "nop".toList then (if ops.isEmpty then .ok [("status".toList, [])] else .error .operandCount)
  else if name = "led.on".toList then
    (if ops.isEmpty then .ok [("setled".toList, [one, zero])] else .error .operandCount)
  else if name = "led.off".toList then
    (if ops.isEmpty then .ok [("setled".toList, [zero, zero])] else .error .operandCount)
  else if name = "fp.play".toList then
    match ops with
    | [v, p, n, lp, ln] =>
      .ok [("fp.enable".toList, [v, zero]), ("fp.pointer".toList, [v, p]), ("fp.length".toList, [v, n]),
        ("fp.looppointer".toList, [v, lp]), ("fp.looplength".toList, [v, ln]), ("fp.enable".toList, [v, one])]
    | _ => .error .operandCount
  else if name = "vr.note".toList then
    match ops with
    | [v, b, n, ls, ll, m, s] =>
      .ok [("vr.nbase".toList, [v, b]), ("vr.nlength".toList, [v, n]), ("vr.nloopstart".toList, [v, ls]),
        ("vr.nlooplength".toList, [v, ll]), ("vr.nloopmode".toList, [v, m]), ("vr.trigger".toList, [v, s])]
    | _ => .error .operandCount
  else .ok [(name, ops)]

/-- The commands of one line: nothing for an empty line or a comment (R149). -/
def assembleLine (line : Text) : Except AsmError (List AsmCommand) :=
  let t := trim (splitAtChar (fun c => c == ';') line).1
  if t.isEmpty then .ok []
  else
    let mo := splitAtChar isBlank t
    let rest := trim (mo.2.getD [])
    let ops := if rest.isEmpty then [] else (splitAll (fun c => c == ',') rest).map trim
    match expand mo.1 ops with
    | .ok cs => assembleAll cs
    | .error e => .error e

/-- The commands of a text, one command (or pseudo-instruction) per line (R149). -/
def assemble (t : Text) : Except AsmError (List AsmCommand) :=
  (splitAll (fun c => c == '\n') t).foldr
    (fun l acc =>
      match assembleLine l, acc with
      | .ok cs, .ok rest => .ok (cs ++ rest)
      | .error e, _ => .error e
      | _, .error e => .error e)
    (.ok [])

/-! ### Printing -/

/-- A digit character, capital letters above 9. -/
def digitChar (d : Nat) : Char := Char.ofNat (if d < 10 then 48 + d else 55 + d)

/-- The digits of a number in front of a text, with enough fuel. -/
def showDigits (base : Nat) : Nat → Nat → Text → Text
  | 0, _, acc => acc
  | fuel + 1, n, acc =>
    let acc' := digitChar (n % base) :: acc
    if n / base = 0 then acc' else showDigits base fuel (n / base) acc'

/-- A number in decimal. -/
def showNat (n : Nat) : Text := showDigits 10 (n.log2 + 1) n []

/-- A word as `0x` and 8 hex digits (R9). -/
def showHex (w : Word) : Text :=
  '0' :: 'x' :: [28, 24, 20, 16, 12, 8, 4, 0].map fun k => digitChar (w.toNat / 2 ^ k % 16)

/-- `m × 10^k` in positional notation, with a point and a digit on each side of it. -/
def showDecimal (m : Nat) (k : Int) : Text :=
  let ds := showNat m
  if 0 ≤ k then ds ++ List.replicate k.toNat '0' ++ ['.', '0']
  else
    let f := (-k).toNat
    if f < ds.length then ds.take (ds.length - f) ++ '.' :: ds.drop (ds.length - f)
    else '0' :: '.' :: (List.replicate (f - ds.length) '0' ++ ds)

/-- The exponent of the leading digit of `u / 2^149`, searched downwards from 10^39. -/
def leadExponent (u : Nat) : Nat → Int → Int
  | 0, e => e
  | fuel + 1, e =>
    if (if 0 ≤ e then 10 ^ e.toNat * NUM.one149 ≤ u else NUM.one149 ≤ u * 10 ^ (-e).toNat) then e
    else leadExponent u fuel (e - 1)

/-- The decimals of as few digits as it takes that read back as `x`, of `n` digits first, the nearer of the two neighbours first;
`(m, k)` stands for `m × 10^k`. -/
def shortestFrom (x : NUM) (lead : Int) : Nat → Nat → Option (Nat × Int)
  | 0, _ => none
  | fuel + 1, n =>
    let k : Int := lead - n + 1
    let p := if 0 ≤ k then x.units else x.units * 10 ^ (-k).toNat
    let q := if 0 ≤ k then NUM.one149 * 10 ^ k.toNat else NUM.one149
    let m := p / q
    let near := if 2 * (p % q) ≤ q then [m, m + 1] else [m + 1, m]
    match near.find? fun m => ofDecimal x.signBit m k == x with
    | some m => some (m, k)
    | none => shortestFrom x lead fuel (n + 1)

/-- `m × 10^k` without the trailing zero that the upper neighbour of a row of nines has (9 + 1 = 10). -/
def dropZero (d : Nat × Int) : Nat × Int := if d.1 % 10 = 0 then (d.1 / 10, d.2 + 1) else d

/-- An `F32` operand as its shortest round-trip decimal (R150); a NaN or an infinity, which has none, as its raw pattern (log 23). -/
def showF32 (x : NUM) : Text :=
  if !x.isFinite then showHex x
  else
    let sign : Text := if x.signBit then ['-'] else []
    if x.units = 0 then sign ++ ['0', '.', '0']
    else
      match shortestFrom x (leadExponent x.units 90 39) 9 1 with
      | some d => sign ++ showDecimal (dropZero d).1 (dropZero d).2
      | none => showHex x

/-- The operand texts of a data word (R149, R150). R150 does not say whether an integer is printed signed: CLAMP and DIR, which R148
sign-extends, are, and U32, RANGE and BOOL are not (DESIGN CHOICE, log 23). -/
def showData (k : AsmKind) (d : Word) : List Text :=
  match k with
  | .unsigned => [showNat d.toNat]
  | .signed => [if d.toInt < 0 then '-' :: showNat d.toInt.natAbs else showNat d.toInt.natAbs]
  | .float => [showF32 d]
  | .led => if d.toNat < 4 then [showNat (d.toNat % 2), showNat (d.toNat / 2)] else [showHex d]
  | .nothing => if d = 0 then [] else [showHex d]
  | .stored => [showNat d.toNat]

/-- The operand texts separated by commas. -/
def joinOperands : List Text → Text
  | [] => []
  | [t] => t
  | t :: ts => t ++ ',' :: ' ' :: joinOperands ts

/-- A command in the syntax of R149. -/
def showInstr (i : Instr) : Text :=
  let w := encode i
  match asmTable.find? fun r => r.op == cmdOp w.1 with
  | some r =>
    let voice : List Text :=
      match opRow r.op with
      | some (.voice _) => [('v' :: showNat (cmdVoice w.1).toNat)]
      | _ => []
    match voice ++ showData r.kind w.2 with
    | [] => r.name
    | ops => r.name ++ ' ' :: joinOperands ops
  | none => []

/-- The disassembler of an instance of backend `b` (R150): a decoded command in the syntax of R149, an ILLEGAL pair as
`.illegal 0x<CMD>, 0x<DATA>`. -/
def disassemble (b : Backend) (cmd data : Word) : Text :=
  match decode b cmd data with
  | .ok i => showInstr i
  | .error _ => ".illegal ".toList ++ showHex cmd ++ ',' :: ' ' :: showHex data

end Sys2Proof
end

