-- ==== Sys2Proof/Safety.lean ====
section
/-! DEFINITION. What claims about the block are stated in: the invariants of its registers (the ranges 10_state.md gives), and the
spec's second forms of two operations (the reflection loop of R321, the sample-major nesting of R210 and R320). -/

namespace Sys2Proof.Machine

/-- The invariant of the registers outside the voices: the parameters are valid (R7), the arena is in canonical form within its
capacity (R47, R552), the accumulator and the voice banks have their sizes (R43, R49, R52), the drain cursor and the render context are
ordered (R44, R45, R72), a pending tick is a suspended pass at a tick boundary of a playing song (R611), produced frames imply a sealed
arena (R48), the clock and drain registers are in their ranges (R56, R60), and the fault registers agree (R73). The bound of
`samplesRemainingInTick` is the largest tick, not the current one (log 17). -/
abbrev State.Inv (s : State) : Prop :=
  s.cfg.valid = true ∧
  (s.arena.wf = true ∧ s.arenaLen ≤ s.cfg.arenaCap) ∧
  (s.acc.length = s.cfg.chunkN ∧ s.fp.length = (fpBank s.cfg).length ∧ s.vr.length = (vrBank s.cfg).length) ∧
  (s.drainPos ≤ s.lastProduced ∧ s.lastProduced = s.rc.rProduced ∧ s.rc.rProduced ≤ s.rc.rTarget ∧
    s.rc.rTarget ≤ s.rc.rRequested ∧ s.rc.rRequested ≤ s.cfg.chunkN ∧ s.rc.rRequested < 2 ^ 32) ∧
  (s.rc.rActive = s.clk.tickPending ∧
    (s.clk.tickPending = true →
      s.clk.state = .playing ∧ s.clk.samplesRemainingInTick = 0 ∧ s.rc.rProduced < s.rc.rTarget ∧ s.flr.fault = false ∧
        s.isSealed = true ∧ s.drainPos = 0)) ∧
  (s.lastProduced ≠ 0 → s.isSealed = true) ∧
  (1 ≤ s.clk.samplesPerTick ∧ s.clk.samplesPerTick ≤ 110250 ∧ s.clk.samplesRemainingInTick ≤ 110250 ∧
    1 ≤ s.clk.tempo ∧ s.clk.tempo ≤ 65535 ∧ s.clk.speed ≤ 255 ∧ s.clk.remainingAfterCompletion < 2 ^ 32) ∧
  (s.snk.sinkAvail < 2 ^ 32 ∧ s.snk.drainShortfall < 2 ^ 32) ∧
  ((s.flr.fault = true ↔ s.flr.faultCode ≠ .noFault) ∧ (s.flr.fault = false → s.flr.faultAddr = 0) ∧
    s.flr.faultAddr < 2 ^ 32)

/-- The entries outside the undrained ones are cleared (R46). After a fault the accumulator is unspecified (R605). -/
abbrev State.AccClear (s : State) : Prop :=
  s.flr.fault = false →
    ∀ i, i < s.acc.length → i < s.drainPos ∨ s.lastProduced ≤ i → s.acc[i]? = some Frame.zero

/-- The ranges of a fixed-period voice's registers (R50; `dac` in [−1.0, 127/128]), and of the timer of an enabled voice: finite, from 0.0 up to below 1024.0,
so that the loop of R211 ends within the three fetches of R617. -/
abbrev FpVoice.InRange (v : FpVoice) : Prop :=
  v.period ≤ 65535 ∧ v.volume ≤ 64 ∧ v.delay ≤ 2 ∧ NUM.isFinite v.pan = true ∧
  (v.pointer < 2 ^ 32 ∧ v.length < 2 ^ 32 ∧ v.loopPointer < 2 ^ 32 ∧ v.loopLength < 2 ^ 32) ∧
  (NUM.isFinite v.dac = true ∧ -(NUM.one149 : Int) ≤ NUM.val v.dac ∧ NUM.val v.dac * 128 ≤ 127 * (NUM.one149 : Int)) ∧
  (v.enabled = true →
    NUM.isFinite v.fractionalTimer = true ∧ 0 ≤ NUM.val v.fractionalTimer ∧
      NUM.val v.fractionalTimer < 1024 * (NUM.one149 : Int))

/-- Every fixed-period voice is in range, outside the fault state. (The voice whose fetch faulted keeps the timer it had inside
the loop, log 7.) -/
abbrev State.FpInRange (s : State) : Prop := s.flr.fault = false → ∀ v ∈ s.fp, v.InRange

/-- The ranges of a stream's registers (R53). -/
abbrev Stream.InRange (t : Stream) : Prop :=
  (t.base < 2 ^ 32 ∧ t.length < 2 ^ 32 ∧ t.loopStart < 2 ^ 32 ∧ t.loopLength < 2 ^ 32) ∧
  (-65536 ≤ t.pointer ∧ t.pointer < 2 ^ 33) ∧
  (NUM.isFinite t.fraction = true ∧ 0 ≤ NUM.val t.fraction ∧ NUM.val t.fraction < NUM.one149) ∧
  (NUM.isFinite t.speed = true ∧ 0 ≤ NUM.val t.speed ∧ NUM.val t.speed < 65536 * (NUM.one149 : Int))

/-- What Resolve leaves when it does not stop (R321): a position of the sample when the stream is not looped, and a position that its
direction of travel has not carried past the loop when it is. (R53 and R322 also hold it at or above 0. Register writes on a stopped
stream break that, log 16, so it is no part of the invariant.) -/
abbrev Stream.Playable (t : Stream) : Prop :=
  (t.looped = false → 0 ≤ t.pointer ∧ t.pointer < t.length) ∧
  (t.looped = true → (t.direction = .ahead → t.pointer < t.loopEnd) ∧ (t.direction = .backward → (t.loopStart : Int) ≤ t.pointer))

/-- The ranges of a variable-rate voice's registers (R55), with its streams playable while they are mixed. -/
abbrev VrVoice.InRange (v : VrVoice) : Prop :=
  (v.volume ≤ 64 ∧ v.panning ≤ 255 ∧ v.mixCounter ≤ 220 ∧ v.volCounter ≤ 110250 ∧ v.panCounter ≤ 110250) ∧
  (v.nextBase < 2 ^ 32 ∧ v.nextLength < 2 ^ 32 ∧ v.nextLoopStart < 2 ^ 32 ∧ v.nextLoopLength < 2 ^ 32) ∧
  v.live.InRange ∧ v.old.InRange ∧
  (v.enabled = true → v.live.Playable) ∧ (v.oldActive = true → v.old.Playable)

/-- Every variable-rate voice is in range, outside the fault state. (What the voice registers hold after a fault, R605 leaves
unspecified, log 7.) -/
abbrev State.VrInRange (s : State) : Prop := s.flr.fault = false → ∀ v ∈ s.vr, v.InRange

/-- The length of the part of a sample a stream can reach from inside it: up to the loop's end when it is looped, else the sample's
length (R54, R321). -/
def Stream.extent (t : Stream) : Nat := if t.looped then t.loopEnd else t.length

/-- A stream inside an arena of `n` bytes: playable, positioned inside its extent, its extent inside the arena (R113, U5). -/
abbrev Stream.Inside (n : Nat) (t : Stream) : Prop :=
  t.Playable ∧ 0 ≤ t.pointer ∧ t.pointer < t.extent ∧ t.base + t.extent ≤ n

/-- Every stream of a variable-rate voice that is mixed lies inside an arena of `n` bytes. -/
abbrev VrVoice.Inside (n : Nat) (v : VrVoice) : Prop :=
  (v.enabled = true → v.live.Inside n) ∧ (v.oldActive = true → v.old.Inside n)

/-- Both regions of a fixed-period voice lie inside an arena of `n` bytes (R113). -/
abbrev FpVoice.Inside (n : Nat) (v : FpVoice) : Prop :=
  (v.length ≠ 0 → v.pointer + v.length ≤ n) ∧ (v.loopLength ≠ 0 → v.loopPointer + v.loopLength ≤ n)

/-- Every voice that is mixed has its regions inside the arena: the host duty of R113. -/
abbrev State.RegionsInside (s : State) : Prop :=
  (∀ v ∈ s.fp, v.enabled = true → v.Inside s.arenaLen) ∧ ∀ v ∈ s.vr, v.Inside s.arenaLen

/-- Voice `v` is the fixed-period voice `x` of an instance that accepts writes to it (R615: decode, fault, voice). -/
abbrev FpReady (s : State) (v : BitVec 8) (x : FpVoice) : Prop :=
  s.cfg.backend = .fp ∧ s.flr.fault = false ∧ v.toNat < 4 ∧ s.fp[v.toNat]? = some x

/-- Voice `v` is the variable-rate voice `x` of an instance that accepts writes to it (R615: decode, fault, voice). -/
abbrev VrReady (s : State) (v : BitVec 8) (x : VrVoice) : Prop :=
  s.cfg.backend = .vr ∧ s.flr.fault = false ∧ v.toNat < s.cfg.nv ∧ s.vr[v.toNat]? = some x

/-- The state after a voice command that leaves `x` in fixed-period voice `v`, answers `OK(0)` and changes nothing else. -/
def State.fpDone (s : State) (v : BitVec 8) (x : FpVoice) : State :=
  { s with fp := s.fp.set v.toNat x, port := { s.port with results := s.port.results ++ [⟨.ok, 0⟩] } }

/-- The state after a voice command that leaves `x` in variable-rate voice `v`, answers `OK(0)` and changes nothing else. -/
def State.vrDone (s : State) (v : BitVec 8) (x : VrVoice) : State :=
  { s with vr := s.vr.set v.toNat x, port := { s.port with results := s.port.results ++ [⟨.ok, 0⟩] } }

/-- `clamp(sext_32(DATA), 0, hi)` by cases (R10, R141). -/
def clampTo (hi : Nat) (d : Word) : Nat := if d.toInt < 0 then 0 else if (hi : Int) < d.toInt then hi else d.toInt.toNat

/-- What "resolve the live stream" leaves of a voice whose live stream is `l` (42_variable_rate.md, opening): the stream as Resolve
leaves it, and the voice disabled if Resolve stops. -/
def VrVoice.resolvedTo (x : VrVoice) (l : Stream) : VrVoice :=
  if (resolve l).2 = true then { x with live := (resolve l).1, enabled := false } else { x with live := (resolve l).1 }

/-- What a write that gives the live stream `l` leaves of a voice (R302, R306 to R310): the stream as written on a silent voice, resolved
on a sounding one. -/
def VrVoice.movedTo (x : VrVoice) (l : Stream) : VrVoice := if x.enabled = true then x.resolvedTo l else { x with live := l }

/-- The `repeat` loop of R321 for PINGPONG, cut off after `fuel` reflections. -/
def mirrorLoop (ls le : Int) : Nat → Int × Direction → Int × Direction
  | 0, pd => pd
  | fuel + 1, (p, d) =>
    if d = .ahead ∧ le ≤ p then mirrorLoop ls le fuel (2 * le - 1 - p, .backward)
    else if d = .backward ∧ p < ls then mirrorLoop ls le fuel (2 * ls - 1 - p, .ahead)
    else (p, d)

/-- All voices over one frame, in voice order, until a stop. -/
def mixFrame {V : Type} (f : V → Frame → Mixed V Frame) : List V → Frame → Mixed (List V) Frame
  | [], a => ⟨[], a, none⟩
  | v :: vs, a =>
    let m := f v a
    match m.stop with
    | some e => ⟨m.voices :: vs, m.frames, some e⟩
    | none =>
      let t := mixFrame f vs m.frames
      ⟨m.voices :: t.voices, t.frames, t.stop⟩

/-- The other nesting of R210 and R320: for each frame of the segment, all voices in order. -/
def mixSampleMajor {V : Type} (f : V → Frame → Mixed V Frame) : List V → List Frame → Mixed (List V) (List Frame)
  | vs, [] => ⟨vs, [], none⟩
  | vs, a :: rest =>
    let m := mixFrame f vs a
    match m.stop with
    | some e => ⟨m.voices, m.frames :: rest, some e⟩
    | none =>
      let t := mixSampleMajor f m.voices rest
      ⟨t.voices, m.frames :: t.frames, t.stop⟩

/-- `n` samples of one voice, each over its own frame, when none stops: the voice afterwards. -/
def afterSamples {V : Type} (f : V → Frame → Mixed V Frame) : Nat → V → V
  | 0, v => v
  | n + 1, v => afterSamples f n (f v Frame.zero).voices

end Sys2Proof.Machine
end

