-- ==== Sys2Proof/Certificates/Slice0/Obligations.lean ====
section
/-! DEFINITION. The statements for the provers: encoding, the step, whole-machine rules, invariants, the result of every command, and
the rules of the two engines, the filter and the drain. -/

open Sys2Proof Sys2Proof.Machine

/-! ### Encoding (30_encoding.md) -/

/-- Decode and encode agree (R143, R147). Decoding the encoding of any command of the instance's backend gives that command, with every voice
number and every data word. A pair that decodes is the encoding of the command it decodes to. -/
def Obligations.DecodeAndEncodeAgree : Prop :=
  (∀ (b : Backend) (i : Instr), i.onBackend b = true → decode b (encode i).1 (encode i).2 = .ok i) ∧
  ∀ (b : Backend) (cmd data : Word) (i : Instr),
    decode b cmd data = .ok i → encode i = (cmd, data) ∧ i.onBackend b = true

/-- A serialised command, followed by any bytes, reads back as the command and those bytes. It is 8 bytes, and each of its two words stands
there least significant byte first (R106). That `CMD` comes before `DATA` is the model's choice (log 18). -/
def Obligations.SerialisedCommandReadsBack : Prop :=
  ∀ (i : Instr) (rest : List Byte),
    decodeBytes (encodeBytes i ++ rest) = .ok (i, rest) ∧
    encodeBytes i =
      [(encode i).1.extractLsb' 0 8, (encode i).1.extractLsb' 8 8, (encode i).1.extractLsb' 16 8, (encode i).1.extractLsb' 24 8,
        (encode i).2.extractLsb' 0 8, (encode i).2.extractLsb' 8 8, (encode i).2.extractLsb' 16 8, (encode i).2.extractLsb' 24 8]

/-- R143: the decoder's checks in their order, over the bit fields of R140. The decoder refuses by the first check that fails and decodes
every other pair, whatever its voice number. A decoded command whose voice does not exist fails later, with BAD_VOICE. -/
def Obligations.DecoderChecksInOrder : Prop :=
  (∀ (b : Backend) (cmd data : Word),
    let op := (cmd.extractLsb' 24 8).toNat
    let control := 0x01 ≤ op ∧ op ≤ 0x0D
    let fixedPeriod := 0x10 ≤ op ∧ op ≤ 0x18
    let variableRate := (0x20 ≤ op ∧ op ≤ 0x2B) ∨ (0x30 ≤ op ∧ op ≤ 0x35)
    (¬(control ∨ fixedPeriod ∨ variableRate) → decode b cmd data = .error .opcode) ∧
    ((control ∨ fixedPeriod ∨ variableRate) →
      (cmd.extractLsb' 0 16 ≠ 0#16 → decode b cmd data = .error .reserved) ∧
      (cmd.extractLsb' 0 16 = 0#16 →
        (control → cmd.extractLsb' 16 8 ≠ 0#8 → decode b cmd data = .error .voiceOnControl) ∧
        (fixedPeriod → b = .vr → decode b cmd data = .error .otherBackend) ∧
        (variableRate → b = .fp → decode b cmd data = .error .otherBackend) ∧
        ((control ∧ cmd.extractLsb' 16 8 = 0#8) ∨ (fixedPeriod ∧ b = .fp) ∨ (variableRate ∧ b = .vr) →
          ∃ i, decode b cmd data = .ok i ∧ encode i = (cmd, data))))) ∧
  ∀ (s : State) (cmd data : Word) (i : Instr) (v : BitVec 8),
    decode s.cfg.backend cmd data = .ok i → i.voice? = some v → s.cfg.voiceCount ≤ v.toNat → s.flr.fault = false →
      exec i s = .next (s.refuseWith .badVoice)

/-- Words written out from the encoding tables of R140, R146 and R147 decode to the commands they stand for, one or more of each family
(95_test_vectors.md E-1, E-5, E-9 to E-13, E-15, E-16, E-21, E-29, E-33, E-34). -/
def Obligations.SpecWordsDecode : Prop :=
  decode .fp 0x11020000#32 0x000001AC#32 = .ok (.fpPeriod 2#8 428#32) ∧
  decode .fp 0x18030000#32 0x3F000000#32 = .ok (.fpPanning 3#8 0x3F000000#32) ∧
  decode .vr 0x21010000#32 0x3FC00000#32 = .ok (.vrSpeed 1#8 0x3FC00000#32) ∧
  decode .vr 0x22010000#32 0xFFFFFFFF#32 = .ok (.vrDirection 1#8 0xFFFFFFFF#32) ∧
  decode .vr 0x34000000#32 0x00000002#32 = .ok (.vrNextLoopMode 0#8 2#32) ∧
  decode .vr 0x35010000#32 0x00000000#32 = .ok (.vrTrigger 1#8 0#32) ∧
  decode .fp 0x01000000#32 0xDEADBEEF#32 = .ok (.reset 0xDEADBEEF#32) ∧
  decode .vr 0x0B000000#32 0x00000002#32 = .ok (.setled 2#32) ∧
  decode .fp 0x0E000000#32 0x00000000#32 = .error .opcode ∧
  decode .fp 0x10000001#32 0x00000001#32 = .error .reserved ∧
  decode .fp 0x02010000#32 0x00000000#32 = .error .voiceOnControl ∧
  decode .fp 0x20000000#32 0x00000001#32 = .error .otherBackend ∧
  decode .vr 0x10000000#32 0x00000001#32 = .error .otherBackend

/-- What the disassembler prints for a pair, the assembler reads back as that pair: a decoded command with every operand, and an ILLEGAL pair
in its `.illegal` form (R149, R150; the syntax beyond R149, that `.illegal` is read among it, is the model's choice, log 23). -/
def Obligations.AssemblerReadsDisassembly : Prop :=
  ∀ (b : Backend) (cmd data : Word), assembleLine (disassemble b cmd data) = .ok [⟨cmd, data, none⟩]

/-- Which data words are legal operands: the last column of R141's table, by bit pattern, with the ranges the table of R146 gives each
command. The kinds U32, CLAMP and ANY take every word. -/
def Obligations.LegalOperands : Prop :=
  ∀ (v : BitVec 8) (d : Word),
    let bool := d = 0#32 ∨ d = 1#32
    (((Instr.tickdone d).operandLegal = true ↔ bool) ∧ ((Instr.setloop d).operandLegal = true ↔ bool) ∧
      ((Instr.fpEnable v d).operandLegal = true ↔ bool) ∧ ((Instr.fpMute v d).operandLegal = true ↔ bool) ∧
      ((Instr.vrEnable v d).operandLegal = true ↔ bool) ∧ ((Instr.vrMute v d).operandLegal = true ↔ bool)) ∧
    (((Instr.settempo d).operandLegal = true ↔ 1 ≤ d.toNat ∧ d.toNat ≤ 65535) ∧
      ((Instr.setspeed d).operandLegal = true ↔ d.toNat ≤ 255) ∧ ((Instr.read d).operandLegal = true ↔ d.toNat ≤ 11) ∧
      ((Instr.vrLoopMode v d).operandLegal = true ↔ d.toNat ≤ 2) ∧
      ((Instr.vrNextLoopMode v d).operandLegal = true ↔ d.toNat ≤ 2)) ∧
    ((Instr.vrDirection v d).operandLegal = true ↔ d.toInt = -1 ∨ d.toInt = 0 ∨ d.toInt = 1) ∧
    (((Instr.fpPanning v d).operandLegal = true ↔ d.extractLsb' 23 8 ≠ 0xFF#8) ∧
      ((Instr.vrSpeed v d).operandLegal = true ↔ d.toNat < 0x47800000 ∨ d = 0x80000000#32) ∧
      ((Instr.vrFraction v d).operandLegal = true ↔ d.toNat < 0x3F800000 ∨ d = 0x80000000#32)) ∧
    ((Instr.setled d).operandLegal = true ↔ d.extractLsb' 2 30 = 0#30) ∧
    (((Instr.init d).operandLegal = true ↔ d = 0#32) ∧ ((Instr.status d).operandLegal = true ↔ d = 0#32)) ∧
    ((Instr.reset d).operandLegal = true ∧ (Instr.render d).operandLegal = true ∧ (Instr.drain d).operandLegal = true ∧
      (Instr.setsink d).operandLegal = true ∧ (Instr.store d).operandLegal = true ∧
      (Instr.fpPeriod v d).operandLegal = true ∧ (Instr.fpVolume v d).operandLegal = true ∧
      (Instr.fpPointer v d).operandLegal = true ∧ (Instr.fpLength v d).operandLegal = true ∧
      (Instr.fpLoopPointer v d).operandLegal = true ∧ (Instr.fpLoopLength v d).operandLegal = true ∧
      (Instr.vrVolume v d).operandLegal = true ∧ (Instr.vrPanning v d).operandLegal = true ∧
      (Instr.vrPointer v d).operandLegal = true ∧ (Instr.vrLength v d).operandLegal = true ∧
      (Instr.vrLoopStart v d).operandLegal = true ∧ (Instr.vrLoopLength v d).operandLegal = true ∧
      (Instr.vrNextBase v d).operandLegal = true ∧ (Instr.vrNextLength v d).operandLegal = true ∧
      (Instr.vrNextLoopStart v d).operandLegal = true ∧ (Instr.vrNextLoopLength v d).operandLegal = true ∧
      (Instr.vrTrigger v d).operandLegal = true)

/-! ### The step -/

/-- The step. When the next pair decodes, it is the meaning of that command on the state without the pair in its inbox and with the pair's
payload in place, with nothing added. When it does not decode, it is answered `ILLEGAL(0)` and nothing changes but the host's side (R144,
R600). That the block waits when no command is there is the model's choice (log 2). -/
def Obligations.StepRunsDecodedCommand : Prop :=
  (∀ (s : State) (c : Command) (rest : List Command) (i : Instr),
    s.port.inbox = c :: rest → decode s.cfg.backend c.cmd c.data = .ok i →
      step s = exec i { s with port := { s.port with inbox := rest, src := c.src, pos := c.pos } }) ∧
  (∀ (s : State) (c : Command) (rest : List Command) (e : Illegal),
    s.port.inbox = c :: rest → decode s.cfg.backend c.cmd c.data = .error e →
      step s = .next { s with
        port := { inbox := rest, src := c.src, pos := c.pos, results := s.port.results ++ [⟨.illegal, 0#32⟩], pcm := s.port.pcm } }) ∧
  ∀ s : State, s.port.inbox = [] → step s = .next s

/-! ### Rules of the whole machine -/

/-- R600: a step that ends its command with an error status (every status but OK and TICK, where FAULTED counts when the fault state was
already set) returns VALUE 0 and changes nothing but the host's side: the command is taken and the result returned. -/
def Obligations.ErrorStatusChangesNothing : Prop :=
  ∀ (s t : State) (c : Command) (rest : List Command) (st : Status) (w : Word),
    s.port.inbox = c :: rest → step s = .next t → t.port.results = s.port.results ++ [⟨st, w⟩] →
    st ≠ .ok → st ≠ .tick → (st = .faulted → s.flr.fault = true) →
      w = 0#32 ∧ t = { s with
        port := { inbox := rest, src := c.src, pos := c.pos, results := s.port.results ++ [⟨st, 0#32⟩], pcm := s.port.pcm } }

/-- Every step that takes a command returns exactly one result, takes only that command, keeps the instance's parameters (R7, R701), and
only appends to the PCM port, which a command other than DRAIN leaves alone (R101, R109, R145). -/
def Obligations.EveryCommandAnswersOnce : Prop :=
  ∀ (s t : State) (c : Command) (rest : List Command),
    s.port.inbox = c :: rest → step s = .next t →
      t.port.inbox = rest ∧ t.cfg = s.cfg ∧ (∃ r, t.port.results = s.port.results ++ [r]) ∧
        ∃ out, t.port.pcm = s.port.pcm ++ out ∧ ((c.cmd.extractLsb' 24 8).toNat ≠ 0x05 → out = [])

/-- The fault state (R605): while it is set, every decoded command but RESET, GET_STATUS and READ answers `FAULTED(0)` and changes nothing,
GET_STATUS and READ are accepted: with a legal operand they answer OK, with another BAD_VALUE(0), and they leave everything but the
returned result; and RESET answers `OK(0)` and clears the fault registers. -/
def Obligations.FaultStateIsSticky : Prop :=
  ∀ (s : State) (i : Instr), s.flr.fault = true → i.onBackend s.cfg.backend = true →
    ((∀ d, i ≠ .reset d) → (∀ d, i ≠ .status d) → (∀ d, i ≠ .read d) → exec i s = .next (s.refuseWith .faulted)) ∧
    (((∃ d, i = .status d) ∨ ∃ d, i = .read d) →
      (i.operandLegal = true → ∃ w, exec i s = .next (s.reply .ok w)) ∧
      (i.operandLegal = false → exec i s = .next (s.refuseWith .badValue))) ∧
    ((∃ d, i = .reset d) →
      ∃ t, exec i s = .next t ∧ t.flr = ⟨false, .noFault, 0⟩ ∧ t.port.results = s.port.results ++ [⟨.ok, 0#32⟩])

/-- R457, first two sentences: the Completed state is entered only by TICK_DONE with song end signalled, a tick pending and `loopSong`
clear, and it is left only by INIT or RESET. So with `loopSong` set no command but a SET_LOOPSONG or a RESET can lead towards it (R463). -/
def Obligations.CompletedEnteredAndLeft : Prop :=
  ∀ (s t : State) (i : Instr), exec i s = .next t →
    (s.clk.state ≠ .completed → t.clk.state = .completed →
      i = .tickdone 1#32 ∧ s.clk.tickPending = true ∧ s.clk.loopSong = false ∧ s.flr.fault = false) ∧
    (s.clk.state = .completed → t.clk.state ≠ .completed → (∃ d, i = .init d) ∨ ∃ d, i = .reset d) ∧
    (s.clk.loopSong = true → t.clk.loopSong = false → (∃ d, i = .setloop d) ∨ ∃ d, i = .reset d)

/-- The arena (R47, R48, R552, R553): a command other than RESET never unseals it and never changes or drops a stored byte; only STORE adds
bytes, and only to an arena that is not sealed. -/
def Obligations.ArenaOnlyGrowsUntilReset : Prop :=
  ∀ (s t : State) (i : Instr), exec i s = .next t → (∀ d, i ≠ .reset d) →
    (s.isSealed = true → t.isSealed = true) ∧
    (∀ a b, s.arena.read a = some b → t.arena.read a = some b) ∧ s.arenaLen ≤ t.arenaLen ∧
    (t.arena ≠ s.arena → s.isSealed = false ∧ ∃ d, i = .store d)

/-- Where a fault comes from (R605, R606, R506): the fault registers change only in RESET, in RENDER or TICK_DONE with code ARENA_RANGE,
and in DRAIN with code NUMERIC. Raising the fault clears `tickPending` and `rActive` and answers `FAULTED(0)`. -/
def Obligations.FaultsRaisedOnlyByMixingAndDrain : Prop :=
  ∀ (s t : State) (i : Instr), exec i s = .next t → (∀ d, i ≠ .reset d) → t.flr ≠ s.flr →
    s.flr.fault = false ∧ t.flr.fault = true ∧ t.flr.faultAddr < 2 ^ 32 ∧
    t.clk.tickPending = false ∧ t.rc.rActive = false ∧ t.port.results = s.port.results ++ [⟨.faulted, 0#32⟩] ∧
    ((((∃ d, i = .render d) ∨ ∃ d, i = .tickdone d) ∧ t.flr.faultCode = .arenaRange) ∨
      ((∃ d, i = .drain d) ∧ t.flr.faultCode = .numeric))

/-- Tick entry (R611, R612): TICK is answered only by RENDER or TICK_DONE, and then `tickPending` and `rActive` are set, the tick's samples
are used up, frames are still to be produced, the song is Playing and VALUE is `rProduced`. No other command sets `tickPending`, so ticks
do not nest. -/
def Obligations.TickEntryIsPrecise : Prop :=
  ∀ (s t : State) (i : Instr), s.Inv → exec i s = .next t →
    (∀ w, t.port.results = s.port.results ++ [⟨.tick, w⟩] →
      ((∃ d, i = .render d) ∨ ∃ d, i = .tickdone d) ∧ t.clk.tickPending = true ∧ t.rc.rActive = true ∧
        t.clk.samplesRemainingInTick = 0 ∧ t.rc.rProduced < t.rc.rTarget ∧ t.lastProduced = t.rc.rProduced ∧
        t.clk.state = .playing ∧ w.toNat = t.rc.rProduced) ∧
    (s.clk.tickPending = false → t.clk.tickPending = true →
      (∃ d, i = .render d) ∧ ∃ w, t.port.results = s.port.results ++ [⟨.tick, w⟩]) ∧
    (s.clk.tickPending = true → ∀ d, exec (.render d) s = .next (s.refuseWith .busy))

/-- R82: the status flags change only in the commands named there. -/
def Obligations.FlagsHaveOnlyTheirWriters : Prop :=
  ∀ (s t : State) (i : Instr), exec i s = .next t → (∀ d, i ≠ .reset d) →
    (t.clk.state ≠ s.clk.state → (∃ d, i = .init d) ∨ ∃ d, i = .tickdone d) ∧
    (t.clk.tickPending ≠ s.clk.tickPending → (∃ d, i = .render d) ∨ ∃ d, i = .tickdone d) ∧
    (t.flr.fault ≠ s.flr.fault → (∃ d, i = .render d) ∨ (∃ d, i = .tickdone d) ∨ ∃ d, i = .drain d) ∧
    (t.isSealed ≠ s.isSealed → ∃ d, i = .render d) ∧
    (t.clk.loopSong ≠ s.clk.loopSong → ∃ d, i = .setloop d) ∧
    (t.flt.ledActive ≠ s.flt.ledActive ∨ t.flt.ledForced ≠ s.flt.ledForced → ∃ d, i = .setled d) ∧
    (t.snk.sinkFull ≠ s.snk.sinkFull → (∃ d, i = .init d) ∨ ∃ d, i = .drain d)

/-- The checks of a voice command in the order of R615, for all 27 of them: decode, fault, voice, operand. When all pass the command answers
`OK(0)` and changes nothing but the one voice it names and the returned result. That `exec` refuses a command of the other backend as
the decoder does is the model's choice (log 21). -/
def Obligations.VoiceCommandChecks : Prop :=
  ∀ (s : State) (i : Instr) (v : BitVec 8), i.voice? = some v →
    (i.onBackend s.cfg.backend = false → exec i s = .next (s.refuseWith .illegal)) ∧
    (i.onBackend s.cfg.backend = true →
      (s.flr.fault = true → exec i s = .next (s.refuseWith .faulted)) ∧
      (s.flr.fault = false →
        (s.cfg.voiceCount ≤ v.toNat → exec i s = .next (s.refuseWith .badVoice)) ∧
        (v.toNat < s.cfg.voiceCount →
          (i.operandLegal = false → exec i s = .next (s.refuseWith .badValue)) ∧
          (i.operandLegal = true →
            ∃ t, exec i s = .next t ∧
              t = { s with fp := t.fp, vr := t.vr, port := { s.port with results := s.port.results ++ [⟨.ok, 0#32⟩] } } ∧
              (∀ k, k ≠ v.toNat → t.fp[k]? = s.fp[k]? ∧ t.vr[k]? = s.vr[k]?) ∧
              (s.cfg.backend = .fp → t.vr = s.vr) ∧ (s.cfg.backend = .vr → t.fp = s.fp)))))

/-- The checks of the control commands in the order of R615, with the statuses of R603 and R604. -/
def Obligations.ControlCommandChecks : Prop :=
  (∀ (s : State) (d : Word), s.flr.fault = false → s.clk.tickPending = true →
    exec (.init d) s = .next (s.refuseWith .busy) ∧ exec (.render d) s = .next (s.refuseWith .busy) ∧
      exec (.drain d) s = .next (s.refuseWith .busy) ∧ exec (.store d) s = .next (s.refuseWith .busy)) ∧
  (∀ (s : State) (d : Word), s.flr.fault = false → s.clk.tickPending = false →
    exec (.tickdone d) s = .next (s.refuseWith .noTick)) ∧
  (∀ (s : State) (i : Instr), i.voice? = none → i.operandLegal = false →
    (s.flr.fault = false ∨ (∃ d, i = .status d) ∨ ∃ d, i = .read d) →
    ((∃ d, i = .init d) → s.clk.tickPending = false) → ((∃ d, i = .tickdone d) → s.clk.tickPending = true) →
      exec i s = .next (s.refuseWith .badValue)) ∧
  (∀ (s : State) (d : Word), s.flr.fault = false → s.clk.tickPending = false → s.lastProduced - s.drainPos < d.toNat →
    exec (.drain d) s = .next (s.refuseWith .drainRange)) ∧
  (∀ (s : State) (d : Word), s.flr.fault = false → s.clk.tickPending = false → s.isSealed = true →
    exec (.store d) s = .next (s.refuseWith .arenaSealed)) ∧
  ∀ (s : State) (d : Word), s.flr.fault = false → s.clk.tickPending = false → s.isSealed = false →
    s.cfg.arenaCap < s.arenaLen + min d.toNat (s.port.src.length - s.port.pos) →
      exec (.store d) s = .next (s.refuseWith .arenaFull)

/-- R452: RENDER's four checks after the fault check, the first failing one deciding, with no state change. -/
def Obligations.RenderChecksInOrder : Prop :=
  ∀ (s : State) (d : Word), s.flr.fault = false →
    (s.clk.tickPending = true → exec (.render d) s = .next (s.refuseWith .busy)) ∧
    (s.clk.tickPending = false →
      (s.clk.state = .idle → exec (.render d) s = .next (s.refuseWith .notInitialized)) ∧
      (s.clk.state ≠ .idle →
        (s.cfg.chunkN < d.toNat → exec (.render d) s = .next (s.refuseWith .chunkOverflow)) ∧
        (d.toNat ≤ s.cfg.chunkN →
          (0 < s.lastProduced - s.drainPos → exec (.render d) s = .next (s.refuseWith .undrained)))))

/-! ### Invariants -/

/-- A newly created instance with parameters in the ranges of R7 meets every invariant, and so does the model's reset state, whose
parameters are the model's choice (log 1). -/
def Obligations.PowerOnMeetsInvariants : Prop :=
  (∀ c : Config, c.valid = true →
    (State.powerOn c).Inv ∧ (State.powerOn c).AccClear ∧ (State.powerOn c).FpInRange ∧ (State.powerOn c).VrInRange) ∧
  State.reset.Inv ∧ State.reset.AccClear ∧ State.reset.FpInRange ∧ State.reset.VrInRange

/-- Every step keeps the invariant of the registers outside the voices: the arena in canonical form within its capacity, the sizes of
accumulator and voice banks, the order `drainPos ≤ lastProduced = rProduced ≤ rTarget ≤ rRequested ≤ CHUNK_N`, a pending tick only
in a suspended pass of a playing song, the ranges of the clock, drain and fault registers. -/
def Obligations.StepKeepsRegisterInvariant : Prop :=
  ∀ s t : State, s.Inv → step s = .next t → t.Inv

/-- Every step keeps the accumulator entries outside the undrained ones cleared (R46, which the spec derives), outside the fault state. -/
def Obligations.StepKeepsAccumulatorClear : Prop :=
  ∀ s t : State, s.Inv → s.AccClear → step s = .next t → t.AccClear

/-- Every step keeps the fixed-period voices in the ranges of R50, `dac` in [−1.0, 127/128] among them, with the timer of an enabled voice
finite, not negative and below 1024.0 (the bound behind R617's three fetches), outside the fault state. -/
def Obligations.StepKeepsFixedPeriodVoices : Prop :=
  ∀ s t : State, s.Inv → s.FpInRange → step s = .next t → t.FpInRange

/-- Every step keeps the variable-rate voices in the ranges of R53 and R55, with every stream that is mixed where Resolve leaves it:
`fraction` in [0, 1), `speed` in [0, 65536), `pointer` in [−65536, 2^33), the counters in range, outside the fault state. -/
def Obligations.StepKeepsVariableRateVoices : Prop :=
  ∀ s t : State, s.Inv → s.VrInRange → step s = .next t → t.VrInRange

/-- No command makes the model stop: under the invariants every command, with every operand, answers a next state. So the bound of three
fetches per sample that R617 derives is never passed, and the model's only fault is unreachable (log 9). -/
def Obligations.NoCommandStops : Prop :=
  ∀ s : State, s.Inv → s.FpInRange → ∀ i : Instr, ∃ t, exec i s = .next t

/-- Expected to fail. R56 gives `samplesRemainingInTick` the range 0 to `samplesPerTick`; R458 lets SET_TEMPO lower `samplesPerTick` without
touching it (log 17). -/
def Obligations.TickBudgetStaysWithinTick : Prop :=
  ∀ s t : State, s.Inv → s.clk.samplesRemainingInTick ≤ s.clk.samplesPerTick → step s = .next t →
    t.clk.samplesRemainingInTick ≤ t.clk.samplesPerTick

/-- Expected to fail. R53 and R322 hold the `pointer` of a playing stream at or above 0; register writes to a stopped stream that ran below
0 and a later enable break it (log 16). -/
def Obligations.PlayingPointerStaysNonNegative : Prop :=
  ∀ s t : State, s.Inv → s.VrInRange → (∀ v ∈ s.vr, v.enabled = true → 0 ≤ v.live.pointer) → step s = .next t →
    ∀ v ∈ t.vr, v.enabled = true → 0 ≤ v.live.pointer

/-! ### The result of every command -/

/-- The nine writes of a fixed-period voice (R200 to R208): the register written, clamped where the rule clamps, `OK(0)`, and nothing else
changed. A rising edge of `enabled` also loads the trigger delay and clears the timer; a voice already enabled is unchanged by enabling;
disabling keeps every other field; a finite panning is stored bit by bit. -/
def Obligations.FpVoiceWrites : Prop :=
  ∀ (s : State) (v : BitVec 8) (d : Word) (x : FpVoice), FpReady s v x →
    exec (.fpPeriod v d) s = .next (s.fpDone v { x with period := clampTo 65535 d }) ∧
    exec (.fpVolume v d) s = .next (s.fpDone v { x with volume := clampTo 64 d }) ∧
    exec (.fpPointer v d) s = .next (s.fpDone v { x with pointer := d.toNat }) ∧
    exec (.fpLength v d) s = .next (s.fpDone v { x with length := d.toNat }) ∧
    exec (.fpLoopPointer v d) s = .next (s.fpDone v { x with loopPointer := d.toNat }) ∧
    exec (.fpLoopLength v d) s = .next (s.fpDone v { x with loopLength := d.toNat }) ∧
    (x.enabled = false →
      exec (.fpEnable v 1#32) s = .next (s.fpDone v { x with enabled := true, delay := 2, fractionalTimer := 0x00000000#32 })) ∧
    (x.enabled = true → exec (.fpEnable v 1#32) s = .next (s.fpDone v x)) ∧
    exec (.fpEnable v 0#32) s = .next (s.fpDone v { x with enabled := false }) ∧
    exec (.fpMute v 1#32) s = .next (s.fpDone v { x with mute := true }) ∧
    exec (.fpMute v 0#32) s = .next (s.fpDone v { x with mute := false }) ∧
    (d.extractLsb' 23 8 ≠ 0xFF#8 → exec (.fpPanning v d) s = .next (s.fpDone v { x with pan := d }))

/-- The writes of a variable-rate voice that move nothing (R300 to disable or on a sounding voice, R301, R303, R311 to R316): speed, fraction,
mute and the staging bank. Enabling a sounding voice changes nothing; disabling cancels a crossfade and keeps every other field. -/
def Obligations.VrPlainWrites : Prop :=
  ∀ (s : State) (v : BitVec 8) (d : Word) (x : VrVoice), VrReady s v x →
    (d.toNat < 0x47800000 ∨ d = 0x80000000#32 →
      exec (.vrSpeed v d) s = .next (s.vrDone v { x with live := { x.live with speed := d } })) ∧
    (d.toNat < 0x3F800000 ∨ d = 0x80000000#32 →
      exec (.vrFraction v d) s = .next (s.vrDone v { x with live := { x.live with fraction := d } })) ∧
    (x.enabled = true → exec (.vrEnable v 1#32) s = .next (s.vrDone v x)) ∧
    exec (.vrEnable v 0#32) s = .next (s.vrDone v { x with enabled := false, mixCounter := 0, oldActive := false }) ∧
    exec (.vrMute v 1#32) s = .next (s.vrDone v { x with mute := true }) ∧
    exec (.vrMute v 0#32) s = .next (s.vrDone v { x with mute := false }) ∧
    exec (.vrNextBase v d) s = .next (s.vrDone v { x with nextBase := d.toNat }) ∧
    exec (.vrNextLength v d) s = .next (s.vrDone v { x with nextLength := d.toNat }) ∧
    exec (.vrNextLoopStart v d) s = .next (s.vrDone v { x with nextLoopStart := d.toNat }) ∧
    exec (.vrNextLoopLength v d) s = .next (s.vrDone v { x with nextLoopLength := d.toNat }) ∧
    exec (.vrNextLoopMode v 0#32) s = .next (s.vrDone v { x with nextLoopMode := .noLoop }) ∧
    exec (.vrNextLoopMode v 1#32) s = .next (s.vrDone v { x with nextLoopMode := .forward }) ∧
    exec (.vrNextLoopMode v 2#32) s = .next (s.vrDone v { x with nextLoopMode := .pingpong })

/-- The writes of a variable-rate voice that resolve its live stream (R300 to enable a silent voice, R302, R306 to R310): the field is
written, and on a sounding voice the stream is then resolved, which may disable the voice; enabling a silent voice resolves its stream,
which may leave it disabled. That enabling a silent voice clears `mixCounter` and `oldActive`, as the corner cases of R317 and R300 have
it and R300's pseudocode does not, is the model's choice (log 20). -/
def Obligations.VrMovingWrites : Prop :=
  ∀ (s : State) (v : BitVec 8) (d : Word) (x : VrVoice), VrReady s v x →
    (x.enabled = false →
      exec (.vrEnable v 1#32) s =
        .next (s.vrDone v
          { x with live := (resolve x.live).1, enabled := !(resolve x.live).2, mixCounter := 0, oldActive := false })) ∧
    exec (.vrDirection v 0xFFFFFFFF#32) s = .next (s.vrDone v (x.movedTo { x.live with direction := .backward })) ∧
    exec (.vrDirection v 0#32) s = .next (s.vrDone v (x.movedTo { x.live with direction := .still })) ∧
    exec (.vrDirection v 1#32) s = .next (s.vrDone v (x.movedTo { x.live with direction := .ahead })) ∧
    exec (.vrPointer v d) s = .next (s.vrDone v (x.movedTo { x.live with pointer := d.toNat })) ∧
    exec (.vrLength v d) s = .next (s.vrDone v (x.movedTo { x.live with length := d.toNat })) ∧
    exec (.vrLoopStart v d) s = .next (s.vrDone v (x.movedTo { x.live with loopStart := d.toNat })) ∧
    exec (.vrLoopLength v d) s = .next (s.vrDone v (x.movedTo { x.live with loopLength := d.toNat })) ∧
    exec (.vrLoopMode v 0#32) s = .next (s.vrDone v (x.movedTo { x.live with loopMode := .noLoop })) ∧
    exec (.vrLoopMode v 1#32) s = .next (s.vrDone v (x.movedTo { x.live with loopMode := .forward })) ∧
    exec (.vrLoopMode v 2#32) s = .next (s.vrDone v (x.movedTo { x.live with loopMode := .pingpong }))

/-- VR_SET_VOLUME and VR_SET_PANNING (R304, R305): slewed over `samplesPerTick` samples in ACCURATE mode on a sounding voice outside a
crossfade, immediate otherwise. -/
def Obligations.VrVolumeAndPanningWrites : Prop :=
  ∀ (s : State) (v : BitVec 8) (d : Word) (x : VrVoice), VrReady s v x →
    let spt := s.clk.samplesPerTick
    let ramp := fun (target : Nat) (current : NUM) =>
      NUM.fdiv (NUM.fsub (NUM.toNUM (target : Int)) current) (NUM.toNUM (spt : Int))
    (s.cfg.quality = .accurate ∧ x.enabled = true ∧ x.mixCounter = 0 →
      exec (.vrVolume v d) s =
        .next (s.vrDone v
          { x with volume := clampTo 64 d, volCounter := spt, volumeRamp := ramp (clampTo 64 d) x.curVol }) ∧
      exec (.vrPanning v d) s =
        .next (s.vrDone v
          { x with panning := clampTo 255 d, panCounter := spt, panningRamp := ramp (clampTo 255 d) x.curPan })) ∧
    (¬(s.cfg.quality = .accurate ∧ x.enabled = true ∧ x.mixCounter = 0) →
      exec (.vrVolume v d) s =
        .next (s.vrDone v
          { x with volume := clampTo 64 d, curVol := NUM.toNUM (clampTo 64 d : Int), volCounter := 0,
                   volumeRamp := 0x00000000#32 }) ∧
      exec (.vrPanning v d) s =
        .next (s.vrDone v
          { x with panning := clampTo 255 d, curPan := NUM.toNUM (clampTo 255 d : Int), panCounter := 0,
                   panningRamp := 0x00000000#32 }))

/-- VR_TRIGGER (R317): the staging bank becomes the live stream at the start position with fraction +0.0, direction +1 and the speed kept;
the voice is enabled and its stream resolved. In ACCURATE mode a sounding voice also snapshots its live stream and its gains (the ramp-up
gains during a crossfade) and starts a crossfade of 220 samples; otherwise there is no crossfade. -/
def Obligations.VrTriggerResult : Prop :=
  ∀ (s : State) (v : BitVec 8) (d : Word) (x : VrVoice), VrReady s v x →
    let live : Stream :=
      { base := x.nextBase, length := x.nextLength, loopStart := x.nextLoopStart, loopLength := x.nextLoopLength,
        loopMode := x.nextLoopMode, pointer := d.toNat, fraction := 0x00000000#32, direction := .ahead,
        speed := x.live.speed }
    (s.cfg.quality = .accurate ∧ x.enabled = true →
      exec (.vrTrigger v d) s =
        .next (s.vrDone v
          { x with
            oldGainL := if 0 < x.mixCounter then x.mixRampUpL else (gains s.cfg x).1
            oldGainR := if 0 < x.mixCounter then x.mixRampUpR else (gains s.cfg x).2
            old := x.live
            oldActive := true
            mixCounter := 220
            live := (resolve live).1
            enabled := !(resolve live).2 })) ∧
    (¬(s.cfg.quality = .accurate ∧ x.enabled = true) →
      exec (.vrTrigger v d) s =
        .next (s.vrDone v
          { x with
            oldActive := false
            mixCounter := 0
            live := (resolve live).1
            enabled := !(resolve live).2 }))

/-- RESET (R700, R702): from every state, with every data word, `OK(0)` and every register at the value of R702's table. The parameters stay
(R701), and a newly created instance has the same values (R701). Three clauses are the model's choice: that the host's side stays and
that the model's counter of free values stays (log 19), and that the voices of the backend the instance does not have are the empty
list (log 12). -/
def Obligations.ResetLeavesResetValues : Prop :=
  ∀ (s : State) (d : Word), ∃ t, exec (.reset d) s = .next t ∧
    t.cfg = s.cfg ∧ t.port = { s.port with results := s.port.results ++ [⟨.ok, 0#32⟩] } ∧ t.freeCtr = s.freeCtr ∧
    t = { State.powerOn s.cfg with port := t.port, freeCtr := t.freeCtr } ∧
    t.acc = List.replicate s.cfg.chunkN ⟨0x00000000#32, 0x00000000#32⟩ ∧ t.lastProduced = 0 ∧ t.drainPos = 0 ∧
    t.arena = [] ∧ t.isSealed = false ∧
    (s.cfg.backend = .fp →
      t.vr = [] ∧ t.fp = List.replicate 4
        { enabled := false, mute := false, period := 0, volume := 0, pan := 0#32, pointer := 0, length := 0,
          loopPointer := 0, loopLength := 0, delay := 0, fractionalTimer := 0#32, dac := 0#32, heldL := 0#32, heldR := 0#32 }) ∧
    (s.cfg.backend = .vr →
      t.fp = [] ∧ t.vr.length = s.cfg.nv ∧ ∀ x ∈ t.vr,
        x.enabled = false ∧ x.mute = false ∧ x.volume = 0 ∧ x.panning = 128 ∧
        x.live = ⟨0, 0, 0, 0, .noLoop, 0, 0#32, .ahead, 0#32⟩ ∧ x.old = x.live ∧ x.oldActive = false ∧
        (x.nextBase = 0 ∧ x.nextLength = 0 ∧ x.nextLoopStart = 0 ∧ x.nextLoopLength = 0 ∧ x.nextLoopMode = .noLoop) ∧
        x.curVol = 0#32 ∧ x.curPan = 0x43000000#32 ∧ x.volumeRamp = 0#32 ∧ x.panningRamp = 0#32 ∧
        (x.volCounter = 0 ∧ x.panCounter = 0 ∧ x.mixCounter = 0) ∧ x.oldGainL = 0#32 ∧ x.oldGainR = 0#32 ∧
        (x.mixRampUpL = 0#32 ∧ x.mixRampUpR = 0#32 ∧ x.mixRampDownL = 0#32 ∧ x.mixRampDownR = 0#32) ∧
        x.heldL = 0#32 ∧ x.heldR = 0#32) ∧
    t.clk.state = .idle ∧
    (s.cfg.backend = .fp → t.clk.samplesPerTick = if s.cfg.video = .pal then 882 else 735) ∧
    (s.cfg.backend = .vr → t.clk.samplesPerTick = 882) ∧
    t.clk.samplesRemainingInTick = 0 ∧ t.clk.remainingAfterCompletion = 0 ∧ t.clk.tempo = 125 ∧ t.clk.speed = 6 ∧
    t.clk.loopSong = false ∧ t.clk.tickPending = false ∧
    t.flt = ⟨false, false, ⟨0#32, 0#32, 0#32, 0#32⟩, ⟨0#32, 0#32, 0#32, 0#32⟩⟩ ∧
    t.snk = ⟨0, 0, false⟩ ∧ t.rc = ⟨false, 0, 0, 0⟩ ∧ t.flr = ⟨false, .noFault, 0⟩ ∧
    t.statusWord &&& 0xFFFF1FFF#32 = 0#32

/-- INIT (R450, R703): the accumulator, the voices, the filter histories, the render context and the counters back to their start values, the
song Playing, `samplesPerTick` from the preset or the tempo; everything else kept. That the voices of the backend the instance does not
have are the empty list is the model's choice (log 12). -/
def Obligations.InitResult : Prop :=
  ∀ s : State, s.flr.fault = false → s.clk.tickPending = false →
    exec (.init 0#32) s = .next { s with
      acc := s.acc.map fun _ => ⟨0x00000000#32, 0x00000000#32⟩
      lastProduced := 0
      drainPos := 0
      fp := if s.cfg.backend = .fp then List.replicate 4 FpVoice.initial else []
      vr := if s.cfg.backend = .fp then [] else List.replicate s.cfg.nv VrVoice.initial
      clk := { s.clk with
        state := .playing
        samplesPerTick :=
          if s.cfg.backend = .fp then (if s.cfg.video = .pal then 882 else 735) else 110250 / s.clk.tempo
        samplesRemainingInTick := 0
        remainingAfterCompletion := 0 }
      flt := { s.flt with left := ⟨0#32, 0#32, 0#32, 0#32⟩, right := ⟨0#32, 0#32, 0#32, 0#32⟩ }
      snk := { s.snk with drainShortfall := 0, sinkFull := false }
      rc := ⟨false, 0, 0, 0⟩
      port := { s.port with results := s.port.results ++ [⟨.ok, 0#32⟩] } }

/-- RENDER (R451, R453, R455, R457), when its checks pass and the voices' regions lie inside the arena. It mixes `k = min(n,
samplesRemainingInTick)` frames from a cleared accumulator. If that is all it was asked for it answers `OK(n)`; else, at the tick
boundary, a playing song suspends with `TICK(k)` and a completed one ends the pass with `OK(k)`. That a completed song still mixes what
is left of its last tick, where R457's and R717's prose has later RENDERs produce nothing, is the model's choice (log 24). -/
def Obligations.RenderResult : Prop :=
  ∀ (s : State) (d : Word),
    s.Inv → s.FpInRange → s.VrInRange → s.RegionsInside →
    s.flr.fault = false → s.clk.tickPending = false → s.clk.state ≠ .idle → d.toNat ≤ s.cfg.chunkN →
    s.lastProduced - s.drainPos = 0 →
    let n := d.toNat
    let k := min n s.clk.samplesRemainingInTick
    let tick := decide (k < n) && s.clk.state == .playing
    ∃ m : State,
      mixSegment 0 k { s with acc := s.acc.map fun _ => Frame.zero } = (m, none) ∧
      exec (.render d) s = .next { s with
        isSealed := true
        acc := m.acc
        fp := m.fp
        vr := m.vr
        flt := m.flt
        lastProduced := k
        drainPos := 0
        rc := { rActive := tick, rRequested := n, rTarget := if tick then n else k, rProduced := k }
        clk := { s.clk with samplesRemainingInTick := s.clk.samplesRemainingInTick - k, tickPending := tick }
        port := { s.port with
          results := s.port.results ++ [⟨if tick then .tick else .ok, BitVec.ofNat 32 k⟩] } }

/-- TICK_DONE (R456, R612), with a tick pending and the voices' regions inside the arena. The tick's samples are loaded; a song end that is
not suppressed completes the song and lowers the target to one more tick; then `k` more frames are mixed, and the command answers OK at the
target or TICK at the next boundary. -/
def Obligations.TickDoneResult : Prop :=
  ∀ (s : State) (d : Word),
    s.Inv → s.FpInRange → s.VrInRange → s.RegionsInside → s.clk.tickPending = true → d = 0#32 ∨ d = 1#32 →
    let spt := s.clk.samplesPerTick
    let songEnd := decide (d = 1#32) && !s.clk.loopSong
    let target := if songEnd then min s.rc.rTarget (s.rc.rProduced + spt) else s.rc.rTarget
    let k := min spt (target - s.rc.rProduced)
    let tick := decide (s.rc.rProduced + k < target)
    ∃ m : State,
      mixSegment s.rc.rProduced k s = (m, none) ∧
      exec (.tickdone d) s = .next { s with
        acc := m.acc
        fp := m.fp
        vr := m.vr
        flt := m.flt
        lastProduced := s.rc.rProduced + k
        rc := { s.rc with rActive := tick, rTarget := target, rProduced := s.rc.rProduced + k }
        clk := { s.clk with
          tickPending := tick
          samplesRemainingInTick := spt - k
          state := if songEnd then .completed else s.clk.state
          remainingAfterCompletion := if songEnd then s.rc.rRequested - target else s.clk.remainingAfterCompletion }
        port := { s.port with
          results := s.port.results ++ [⟨if tick then .tick else .ok, BitVec.ofNat 32 (s.rc.rProduced + k)⟩] } }

/-- DRAIN (R501, R502, R503) of frames that hold no NaN: `k = min(n, sinkAvail div 4)` frames leave on the PCM port, their entries are
zeroed, `drainPos` and `sinkAvail` move by `k` frames, the shortfall is recorded, and the answer is `OK(k)`. -/
def Obligations.DrainResult : Prop :=
  ∀ (s : State) (d : Word),
    let n := d.toNat
    let k := min n (s.snk.sinkAvail / 4)
    let out := (s.acc.drop s.drainPos).take k
    s.flr.fault = false → s.clk.tickPending = false → n ≤ s.lastProduced - s.drainPos →
    (∀ f ∈ out, NUM.isNaN f.l = false ∧ NUM.isNaN f.r = false) →
    ∃ t, exec (.drain d) s = .next t ∧
      t = { s with
        acc := t.acc
        drainPos := s.drainPos + k
        snk := { sinkAvail := s.snk.sinkAvail - 4 * k, drainShortfall := n - k, sinkFull := decide (k < n) }
        port := { s.port with
          results := s.port.results ++ [⟨.ok, BitVec.ofNat 32 k⟩]
          pcm := s.port.pcm ++ out.flatMap (frameBytes s.cfg) } } ∧
      ∀ i, t.acc[i]? =
        if s.drainPos ≤ i ∧ i < s.drainPos + k then (s.acc[i]?).map fun _ => ⟨0x00000000#32, 0x00000000#32⟩ else s.acc[i]?

/-- SET_SINK, SET_TEMPO, SET_SPEED, SET_LOOPSONG and SET_LED (R500, R458, R459, R460, R400): the registers written, `OK(0)`, and nothing else
changed, with a tick pending or not. -/
def Obligations.ControlRegisterWrites : Prop :=
  ∀ (s : State) (d : Word), s.flr.fault = false →
    let port := { s.port with results := s.port.results ++ [⟨.ok, 0#32⟩] }
    exec (.setsink d) s = .next { s with snk := { s.snk with sinkAvail := d.toNat }, port := port } ∧
    (1 ≤ d.toNat → d.toNat ≤ 65535 →
      exec (.settempo d) s =
        .next { s with clk := { s.clk with tempo := d.toNat, samplesPerTick := 110250 / d.toNat }, port := port }) ∧
    (d.toNat ≤ 255 → exec (.setspeed d) s = .next { s with clk := { s.clk with speed := d.toNat }, port := port }) ∧
    exec (.setloop 1#32) s = .next { s with clk := { s.clk with loopSong := true }, port := port } ∧
    exec (.setloop 0#32) s = .next { s with clk := { s.clk with loopSong := false }, port := port } ∧
    (d.toNat < 4 →
      exec (.setled d) s = .next { s with
        flt := { s.flt with ledActive := d.getLsbD 0, ledForced := d.getLsbD 1 }, port := port })

/-- R80: GET_STATUS returns the status word with the listed fields and changes nothing; a new instance's word has bits 0 to 12 clear. -/
def Obligations.StatusWordFields : Prop :=
  (∀ s : State, ∃ w : Word, exec (.status 0#32) s = .next (s.reply .ok w) ∧
    (w.extractLsb' 0 2 = match s.clk.state with | .idle => 0#2 | .playing => 1#2 | .completed => 2#2) ∧
    w.getLsbD 2 = s.clk.tickPending ∧ w.getLsbD 3 = s.flr.fault ∧
    (w.extractLsb' 4 4 = match s.flr.faultCode with | .noFault => 0#4 | .arenaRange => 1#4 | .numeric => 2#4) ∧
    w.getLsbD 8 = s.isSealed ∧ w.getLsbD 9 = s.clk.loopSong ∧ w.getLsbD 10 = s.flt.ledActive ∧
    w.getLsbD 11 = s.flt.ledForced ∧ w.getLsbD 12 = s.snk.sinkFull ∧
    w.getLsbD 13 = decide (s.cfg.backend = .vr) ∧
    w.getLsbD 14 = decide (s.cfg.backend = .vr ∧ s.cfg.quality = .accurate) ∧
    w.getLsbD 15 = decide (s.cfg.backend = .fp ∧ s.cfg.video = .ntsc) ∧
    w.extractLsb' 16 16 = 0#16) ∧
  ∀ c : Config, ∃ w : Word,
    exec (.status 0#32) (State.powerOn c) = .next ((State.powerOn c).reply .ok w) ∧ w.extractLsb' 0 13 = 0#13

/-- R81: READ returns the register its selector names and changes nothing; any other selector is BAD_VALUE. -/
def Obligations.ReadSelectors : Prop :=
  ∀ s : State,
    let answer := fun (n : Nat) => (Host.Outcome.next (s.reply .ok (BitVec.ofNat 32 n)) : Answer)
    exec (.read 0#32) s = answer s.lastProduced ∧
    exec (.read 1#32) s = answer (s.lastProduced - s.drainPos) ∧
    exec (.read 2#32) s = answer s.clk.samplesPerTick ∧
    exec (.read 3#32) s = answer s.clk.samplesRemainingInTick ∧
    exec (.read 4#32) s = answer s.clk.remainingAfterCompletion ∧
    exec (.read 5#32) s = answer s.clk.tempo ∧
    exec (.read 6#32) s = answer s.clk.speed ∧
    exec (.read 7#32) s = answer s.arena.length ∧
    exec (.read 8#32) s = answer s.snk.sinkAvail ∧
    exec (.read 9#32) s = answer s.snk.drainShortfall ∧
    exec (.read 10#32) s = answer s.flr.faultAddr ∧
    exec (.read 11#32) s = answer s.rc.rProduced ∧
    ∀ d : Word, 11 < d.toNat → exec (.read d) s = .next (s.refuseWith .badValue)

/-- STORE (R550, R551, R552): `m = min(n, |src| − pos)` bytes of the payload are appended at the offset `arenaLen` that is returned; every
stored byte stays, and nothing else changes. -/
def Obligations.StoreResult : Prop :=
  ∀ (s : State) (d : Word),
    let m := min d.toNat (s.port.src.length - s.port.pos)
    s.arena.wf = true → s.flr.fault = false → s.clk.tickPending = false → s.isSealed = false →
    s.arenaLen + m ≤ s.cfg.arenaCap →
    ∃ t, exec (.store d) s = .next t ∧
      t = { s with
        arena := t.arena
        port := { s.port with results := s.port.results ++ [⟨.ok, BitVec.ofNat 32 s.arenaLen⟩] } } ∧
      t.arena.wf = true ∧ t.arenaLen = s.arenaLen + m ∧
      (∀ a < s.arenaLen, t.arena.read a = s.arena.read a) ∧
      ∀ j < m, t.arena.read (s.arenaLen + j) = s.port.src[s.port.pos + j]?

/-- Fault entry (R605, R606, R506). When mixing a segment of RENDER or TICK_DONE stops at offset `a`, the fault registers are set with the
offset saturated to 32 bits, the tick request and the pass end, `lastProduced` and `rProduced` stay as they were at the start of the
segment, and the answer is `FAULTED(0)`; the accumulator's contents are free (log 6). TICK_DONE's own effects before the segment stay, with either
operand: the tick's samples are loaded, and a song end that is not suppressed has completed the song and lowered the target. When DRAIN
would write a frame that holds a NaN, the fault is NUMERIC with the index of the first such entry, no byte is written, and no drain
register changes; that no accumulator entry changes either, where R605 leaves the accumulator unspecified, is the model's choice
(log 8). -/
def Obligations.FaultEntry : Prop :=
  (∀ (s m : State) (d : Word) (a : Nat),
    s.flr.fault = false → s.clk.tickPending = false → s.clk.state ≠ .idle → d.toNat ≤ s.cfg.chunkN →
    s.lastProduced - s.drainPos = 0 →
    mixSegment 0 (min s.clk.samplesRemainingInTick d.toNat) (s.startPass d.toNat) = (m, some (.arenaRange a)) →
    ∃ t, exec (.render d) s = .next t ∧ t.flr = ⟨true, .arenaRange, min a 0xFFFFFFFF⟩ ∧
      t.clk = { s.clk with tickPending := false } ∧ t.rc = ⟨false, d.toNat, d.toNat, 0⟩ ∧ t.lastProduced = 0 ∧
      t.port = { s.port with results := s.port.results ++ [⟨.faulted, 0#32⟩] } ∧ t.arena = s.arena ∧ t.snk = s.snk ∧
      t.isSealed = true ∧ t.acc.length = s.acc.length) ∧
  (∀ (s m : State) (d : Word) (a : Nat),
    s.Inv → s.clk.tickPending = true → d = 0#32 ∨ d = 1#32 →
    let spt := s.clk.samplesPerTick
    let songEnd := decide (d = 1#32) && !s.clk.loopSong
    let target := if songEnd then min s.rc.rTarget (s.rc.rProduced + spt) else s.rc.rTarget
    mixSegment s.rc.rProduced (min spt (target - s.rc.rProduced)) s = (m, some (.arenaRange a)) →
    ∃ t, exec (.tickdone d) s = .next t ∧ t.flr = ⟨true, .arenaRange, min a 0xFFFFFFFF⟩ ∧
      t.clk = { s.clk with
        tickPending := false
        samplesRemainingInTick := spt
        state := if songEnd then .completed else s.clk.state
        remainingAfterCompletion := if songEnd then s.rc.rRequested - target else s.clk.remainingAfterCompletion } ∧
      t.rc = { s.rc with rActive := false, rTarget := target } ∧ t.lastProduced = s.lastProduced ∧
      t.port = { s.port with results := s.port.results ++ [⟨.faulted, 0#32⟩] } ∧ t.arena = s.arena ∧ t.snk = s.snk) ∧
  ∀ (s : State) (d : Word) (j : Nat) (f : Frame),
    s.flr.fault = false → s.clk.tickPending = false → d.toNat ≤ s.lastProduced - s.drainPos →
    j < min d.toNat (s.snk.sinkAvail / 4) → s.acc[s.drainPos + j]? = some f →
    (NUM.isNaN f.l = true ∨ NUM.isNaN f.r = true) →
    (∀ j' < j, ∀ g, s.acc[s.drainPos + j']? = some g → NUM.isNaN g.l = false ∧ NUM.isNaN g.r = false) →
      exec (.drain d) s = .next { s with
        flr := ⟨true, .numeric, min (s.drainPos + j) 0xFFFFFFFF⟩
        clk := { s.clk with tickPending := false }
        rc := { s.rc with rActive := false }
        port := { s.port with results := s.port.results ++ [⟨.faulted, 0#32⟩] } }

/-! ### The fixed-period engine (41_fixed_period.md) -/

/-- R213: a voice whose period is 60 or less is skipped: it adds nothing, and no register of it changes. -/
def Obligations.PeriodGateSkipsVoice : Prop :=
  ∀ (c : Config) (m : Memory) (v : FpVoice) (a : Frame), v.period ≤ 60 → fpVoiceSample c m v a = ⟨v, a, none⟩

/-- FPFetch (R212, R218): an exhausted region reloads first and disables the voice when there is nothing to reload; a fetch takes the byte
at the cursor as the new `dac`, moves the cursor and reloads at the region's end; a cursor outside the arena is the fault with that
offset. -/
def Obligations.FetchReadsAndReloads : Prop :=
  ∀ (m : Memory) (v : FpVoice),
    (v.length = 0 → v.loopLength = 0 →
      fpFetch m v = ({ v with pointer := v.loopPointer, length := 0, enabled := false }, none)) ∧
    (v.length = 0 → v.loopLength ≠ 0 →
      fpFetch m v = fpFetch m { v with pointer := v.loopPointer, length := v.loopLength }) ∧
    (v.length ≠ 0 →
      (m.read v.pointer = none → fpFetch m v = (v, some (.arenaRange v.pointer))) ∧
      ∀ b, m.read v.pointer = some b →
        fpFetch m v =
          (if v.length = 1 then
            { v with dac := NUM.ofSample b, pointer := v.loopPointer, length := v.loopLength }
          else { v with dac := NUM.ofSample b, pointer := v.pointer + 1, length := v.length - 1 }, none))

/-- The timing of a fixed-period sample (R211, R214). A disabled voice is left as it is. An enabled one with a period above 60 runs its
timing part and stops when that stops; else the sample leaves what the timing part left, but for the held values of a voice still
enabled, which are what it adds. The timing part: while the delay runs it only counts down; then the timer falls by 1.0, and while the
voice is enabled and its timer is below 1.0 a byte is fetched and, if that left the voice enabled, the timer grows by the step,
`fdiv(toNUM(period), CHIP_CLOCK)`. That the loop is cut at three fetches is the model's form (log 9), by the bound R617 derives. The
trigger delay (R217, R711): after a rising edge the first two samples of a voice with period above 60 only count the delay down; the
third starts the timer at −1.0 and so fetches at once. With a step of 2.0 or more it fetches one byte, the one at the cursor. -/
def Obligations.TriggerDelayIsTwoSamples : Prop :=
  (∀ (c : Config) (m : Memory) (v : FpVoice) (a : Frame), v.enabled = false → fpVoiceSample c m v a = ⟨v, a, none⟩) ∧
  (∀ (c : Config) (m : Memory) (v : FpVoice) (a : Frame), v.enabled = true → 60 < v.period →
    let r := fpVoiceSample c m v a
    let t := fpTime c m v
    r.stop = t.2 ∧ r.voices = { t.1 with heldL := r.voices.heldL, heldR := r.voices.heldR } ∧
    (t.2 = none →
      (t.1.enabled = false → r.voices = t.1 ∧ r.frames = a) ∧
      (t.1.enabled = true →
        r.frames = ⟨NUM.fadd a.l r.voices.heldL, NUM.fadd a.r r.voices.heldR⟩ ∧
        (v.mute = true → r.voices.heldL = v.heldL ∧ r.voices.heldR = v.heldR)))) ∧
  (∀ (c : Config) (m : Memory) (v : FpVoice),
    (0 < v.delay → fpTime c m v = ({ v with delay := v.delay - 1 }, none)) ∧
    (v.delay = 0 →
      fpTime c m v =
        fpFetchLoop m (NUM.fdiv (NUM.toNUM (v.period : Int)) (if c.video = .pal then 0x42A0DB5F#32 else 0x42A25670#32)) 3
          { v with fractionalTimer := NUM.fsub v.fractionalTimer 0x3F800000#32 })) ∧
  (∀ (m : Memory) (step : NUM) (n : Nat) (v : FpVoice),
    let goes := v.enabled && NUM.flt v.fractionalTimer 0x3F800000#32
    (goes = false → fpFetchLoop m step n v = (v, none)) ∧
    (goes = true → ∀ w,
      (∀ e, fpFetch m v = (w, some e) → fpFetchLoop m step (n + 1) v = (w, some e)) ∧
      (fpFetch m v = (w, none) →
        fpFetchLoop m step (n + 1) v =
          fpFetchLoop m step n (if w.enabled then { w with fractionalTimer := NUM.fadd w.fractionalTimer step } else w)))) ∧
  ∀ (c : Config) (m : Memory) (v : FpVoice) (b : Byte),
    v.enabled = false → 60 < v.period → v.period ≤ 65535 → v.length ≠ 0 → m.read v.pointer = some b →
    let f := fpVoiceSample c m
    let v0 := fpSetEnabled true v
    (afterSamples f 1 v0).delay = 1 ∧ (afterSamples f 2 v0).delay = 0 ∧
    (∀ n ≤ 2, (afterSamples f n v0).pointer = v.pointer ∧ (afterSamples f n v0).length = v.length ∧
      (afterSamples f n v0).dac = v.dac ∧ (afterSamples f n v0).fractionalTimer = 0x00000000#32) ∧
    fpTime c m (afterSamples f 2 v0) =
      fpFetchLoop m (fpStep c v.period) 3 { afterSamples f 2 v0 with fractionalTimer := 0xBF800000#32 } ∧
    (0x40000000 ≤ (fpStep c v.period).toNat →
      (f (afterSamples f 2 v0) Frame.zero).stop = none ∧ (afterSamples f 3 v0).dac = NUM.ofSample b ∧
        (afterSamples f 3 v0).length = (if v.length = 1 then v.loopLength else v.length - 1))

/-- What a voice contributes, on both engines, and mute. An unmuted fixed-period voice that is processed and not disabled holds, and adds,
`dac × (g × factor)` with the gain and the factors of R215. An unmuted variable-rate voice outside a crossfade holds its value times the
gains of R327 on the slewed volume and panning (R329). The value is the byte at the position, and in ACCURATE mode it is interpolated by
the fraction towards the byte at the partner (R322, R324), whose position R323 gives. An enabled variable-rate voice whose value, or
whose old stream's value in a crossfade, is a fault stops with that fault (R322, R329, R606). A muted voice runs exactly as an unmuted
one, but its held values stay, and what it adds to the accumulator is the held values (R216, R331). -/
def Obligations.MuteHoldsContribution : Prop :=
  (∀ (c : Config) (m : Memory) (v : FpVoice) (a : Frame),
    let r := fpVoiceSample c m v a
    let g := fun (w : FpVoice) => NUM.fmul (NUM.fdiv (NUM.toNUM (w.volume : Int)) 0x42800000#32) c.masterFp
    v.enabled = true → 60 < v.period → v.mute = false → r.stop = none → r.voices.enabled = true →
      r.voices.heldL = NUM.fmul r.voices.dac (NUM.fmul (g v) (NUM.fsub 0x3F800000#32 v.pan)) ∧
      r.voices.heldR = NUM.fmul r.voices.dac (NUM.fmul (g v) (NUM.fadd 0x3F800000#32 v.pan)) ∧
      r.frames = ⟨NUM.fadd a.l r.voices.heldL, NUM.fadd a.r r.voices.heldR⟩) ∧
  (∀ (c : Config) (m : Memory) (v : VrVoice) (a : Frame) (x : NUM),
    let r := vrVoiceSample c m v a
    let vol := (slewStep v).curVol
    let pan := (slewStep v).curPan
    let gv := NUM.fmul (NUM.fdiv vol 0x42800000#32) c.masterVr
    v.enabled = true → v.mixCounter = 0 → v.mute = false → streamValue c m v.live = .ok x →
      r.stop = none ∧
      r.voices.heldL = NUM.fmul x (NUM.fmul gv (NUM.fdiv (NUM.fsub 0x437F0000#32 pan) 0x437F0000#32)) ∧
      r.voices.heldR = NUM.fmul x (NUM.fmul gv (NUM.fdiv pan 0x437F0000#32)) ∧
      r.frames = ⟨NUM.fadd a.l r.voices.heldL, NUM.fadd a.r r.voices.heldR⟩) ∧
  (∀ (c : Config) (m : Memory) (t : Stream), 0 ≤ t.pointer →
    let byteAt := fun (q : Int) => m.read ((t.base : Int) + q).toNat
    let q := partner t
    (byteAt t.pointer = none →
      streamValue c m t = .error (.arenaRange (min ((t.base : Int) + t.pointer).toNat 0xFFFFFFFF))) ∧
    ∀ b0, byteAt t.pointer = some b0 →
      (c.quality = .fast → streamValue c m t = .ok (NUM.ofSample b0)) ∧
      (c.quality = .accurate → 0 ≤ q →
        (byteAt q = none → streamValue c m t = .error (.arenaRange (min ((t.base : Int) + q).toNat 0xFFFFFFFF))) ∧
        ∀ b1, byteAt q = some b1 →
          streamValue c m t =
            .ok (NUM.fadd (NUM.ofSample b0) (NUM.fmul (NUM.fsub (NUM.ofSample b1) (NUM.ofSample b0)) t.fraction)))) ∧
  (∀ t : Stream,
    let ls : Int := t.loopStart
    let len : Int := t.loopLength
    let le := ls + len
    let q := t.pointer + t.direction.toInt
    let looped := t.loopMode ≠ .noLoop ∧ t.loopLength ≠ 0
    (t.direction = .still → partner t = t.pointer) ∧
    (t.direction ≠ .still → ¬looped → partner t = if 0 ≤ q ∧ q < t.length then q else t.pointer) ∧
    (t.direction = .ahead → looped →
      partner t =
        if q < le then q else if t.loopMode = .forward then ls + (q - le) % len else 2 * le - 1 - q) ∧
    (t.direction = .backward → looped →
      partner t =
        if ls ≤ q then q else if t.loopMode = .forward then le - 1 - (ls - 1 - q) % len else 2 * ls - 1 - q)) ∧
  (∀ (c : Config) (m : Memory) (v : VrVoice) (a : Frame) (e : MixStop), v.enabled = true →
    (streamValue c m v.live = .error e → (vrVoiceSample c m v a).stop = some e) ∧
    ∀ x, streamValue c m v.live = .ok x → 0 < v.mixCounter → v.oldActive = true → streamValue c m v.old = .error e →
      (vrVoiceSample c m v a).stop = some e) ∧
  (∀ (c : Config) (m : Memory) (v w : FpVoice) (a b : Frame),
    fpVoiceSample c m { v with mute := false } a = ⟨w, b, none⟩ →
    ∃ b', fpVoiceSample c m { v with mute := true } a = ⟨{ w with mute := true, heldL := v.heldL, heldR := v.heldR }, b', none⟩ ∧
      ((b' = a ∧ b = a ∧ (v.enabled = false ∨ v.period ≤ 60 ∨ w.enabled = false)) ∨
        (b' = ⟨NUM.fadd a.l v.heldL, NUM.fadd a.r v.heldR⟩ ∧ b = ⟨NUM.fadd a.l w.heldL, NUM.fadd a.r w.heldR⟩))) ∧
  ∀ (c : Config) (m : Memory) (v w : VrVoice) (a b : Frame),
    vrVoiceSample c m { v with mute := false } a = ⟨w, b, none⟩ →
    ∃ b', vrVoiceSample c m { v with mute := true } a = ⟨{ w with mute := true, heldL := v.heldL, heldR := v.heldR }, b', none⟩ ∧
      ((b' = a ∧ b = a ∧ v.enabled = false) ∨
        (b' = ⟨NUM.fadd a.l v.heldL, NUM.fadd a.r v.heldR⟩ ∧ b = ⟨NUM.fadd a.l w.heldL, NUM.fadd a.r w.heldR⟩))

/-- The host duty of R113 for the fixed-period engine: while every enabled voice's two regions lie inside the arena, mixing a segment of any
length raises no fault and leaves every enabled voice's regions inside. -/
def Obligations.FpRegionsInsideNeverFault : Prop :=
  ∀ (s : State) (i0 seg : Nat), s.cfg.backend = .fp → s.Inv → s.flr.fault = false → s.FpInRange → s.RegionsInside →
    (mixSegment i0 seg s).2 = none ∧ (mixSegment i0 seg s).1.RegionsInside

/-! ### The variable-rate engine (42_variable_rate.md) -/

/-- Resolve (R321): it never changes the fraction or any field but the position and the direction. A stream that is not looped stops exactly
when its position is outside the sample, and keeps it. A looped stream never stops; one whose direction has carried it past the loop
lands inside `[LS, LE)`, and any other is left as it is. In FORWARD mode the direction is kept and the position moves by a multiple of
the loop length; in PINGPONG mode position and direction are those of the closed form of R332. -/
def Obligations.ResolveLandsInRange : Prop :=
  ∀ t : Stream,
    let u := (resolve t).1
    u = { t with pointer := u.pointer, direction := u.direction } ∧
    (t.looped = false → u = t ∧ ((resolve t).2 = true ↔ t.pointer < 0 ∨ (t.length : Int) ≤ t.pointer)) ∧
    (t.looped = true →
      let past := (t.direction = .ahead ∧ (t.loopEnd : Int) ≤ t.pointer) ∨ (t.direction = .backward ∧ t.pointer < (t.loopStart : Int))
      (resolve t).2 = false ∧ u.Playable ∧
      (past → (t.loopStart : Int) ≤ u.pointer ∧ u.pointer < (t.loopEnd : Int)) ∧ (¬past → u = t)) ∧
    (t.looped = true → t.loopMode = .forward → u.direction = t.direction ∧ ∃ n : Int, u.pointer = t.pointer + n * t.loopLength) ∧
    (t.looped = true → t.loopMode = .pingpong →
      u = { t with pointer := (reflect t t.pointer).1, direction := (reflect t t.pointer).2 }) ∧
    ((resolve t).2 = false → resolve u = (u, false))

/-- R332, which the spec derives: the `repeat` loop of R321 for PINGPONG always ends, and the closed form gives the position and direction
it ends with, from every position and for every loop. -/
def Obligations.PingPongClosedForm : Prop :=
  ∀ t : Stream, 0 < t.loopLength →
    ∃ fuel, ∀ more, mirrorLoop t.loopStart t.loopEnd (fuel + more) (t.pointer, t.direction) = reflect t t.pointer

/-- Advance (R325, R326): the position moves by `n` whole bytes in the direction of travel, the fraction stays in [0, 1), and nothing else
changes. In FAST mode `n` is the integer part of the speed, plus 1 when the fraction and the speed's fractional part (exact) add up to
1.0 or more, which is then taken off. In ACCURATE mode `n` is the integer part of `fadd(fraction, speed)`, and the new fraction is what
is left of that sum. -/
def Obligations.AdvanceMovesInDirection : Prop :=
  ∀ (c : Config) (t : Stream), t.InRange →
    let u := advance c t
    let one : Int := NUM.one149
    (NUM.isFinite u.fraction = true ∧ 0 ≤ NUM.val u.fraction ∧ NUM.val u.fraction < one) ∧
    (c.quality = .fast →
      let d := NUM.val t.speed / one
      let fs := NUM.fsub t.speed (NUM.toNUM d)
      let f := NUM.fadd t.fraction fs
      let carry := decide (one ≤ NUM.val f)
      (0 ≤ d ∧ d ≤ 65535 ∧ NUM.isFinite fs = true ∧ NUM.val fs = NUM.val t.speed % one ∧ NUM.isFinite f = true) ∧
      u = { t with
        pointer := t.pointer + t.direction.toInt * (if carry then d + 1 else d)
        fraction := if carry then NUM.fsub f 0x3F800000#32 else f }) ∧
    (c.quality = .accurate →
      let f := NUM.fadd t.fraction t.speed
      let n := NUM.val f / one
      (0 ≤ n ∧ n ≤ 65536 ∧ NUM.isFinite f = true ∧ NUM.val u.fraction = NUM.val f % one) ∧
      u = { t with
        pointer := t.pointer + t.direction.toInt * n
        fraction := NUM.fsub f (NUM.toNUM n) })

/-- R328: one step counts each running slew down and adds its ramp, but the last step takes the target itself; so a slew of `n` samples ends
exactly on its target at its `n`-th step. Nothing else of the voice moves, and the slew of a disabled voice is frozen. An enabled voice
takes one such step per sample, before its gains are computed. -/
def Obligations.SlewLandsExactly : Prop :=
  (∀ v : VrVoice,
    slewStep v =
      { v with
        volCounter := v.volCounter - 1
        curVol :=
          if v.volCounter = 0 then v.curVol
          else if v.volCounter = 1 then NUM.toNUM (v.volume : Int) else NUM.fadd v.curVol v.volumeRamp
        panCounter := v.panCounter - 1
        curPan :=
          if v.panCounter = 0 then v.curPan
          else if v.panCounter = 1 then NUM.toNUM (v.panning : Int) else NUM.fadd v.curPan v.panningRamp }) ∧
  (∀ v : VrVoice,
    (0 < v.volCounter →
      (slewStep^[v.volCounter] v).curVol = NUM.toNUM (v.volume : Int) ∧ (slewStep^[v.volCounter] v).volCounter = 0) ∧
    (0 < v.panCounter →
      (slewStep^[v.panCounter] v).curPan = NUM.toNUM (v.panning : Int) ∧ (slewStep^[v.panCounter] v).panCounter = 0)) ∧
  (∀ (c : Config) (m : Memory) (v : VrVoice) (a : Frame), v.enabled = false → vrVoiceSample c m v a = ⟨v, a, none⟩) ∧
  ∀ (c : Config) (m : Memory) (v : VrVoice) (a : Frame), v.enabled = true →
    let w := (vrVoiceSample c m v a).voices
    (w.volCounter = (slewStep v).volCounter ∧ w.curVol = (slewStep v).curVol ∧
      w.panCounter = (slewStep v).panCounter ∧ w.curPan = (slewStep v).curPan) ∧
    ∀ x, (vrVoiceSample c m v a).stop = none → v.mixCounter = 0 → v.mute = false → streamValue c m v.live = .ok x →
      w.heldL = NUM.fmul x (gains c (slewStep v)).1 ∧ w.heldR = NUM.fmul x (gains c (slewStep v)).2

/-- The crossfade (R329, R330, R713), on an enabled voice. With no fault the counter falls by one at each sample and never below 0, and the
live stream advances and is resolved, which may disable the voice. With `n` the counter after a sample and the gains of R327 on the
slewed volume and panning, the ramp-up is `gain × (220 − n)/220` and the ramp-down `oldGain × n/220`, each rounded as R329 writes it. An
unmuted voice holds `new × rampUp + old × rampDown`, with +0.0 for an old stream already dropped, a muted one keeps its held values, and
either adds what it holds. The old stream advances, and is dropped when it stops or when the counter reaches 0. At the last sample the
ramp-up is exactly the voice's gain, when that is no NaN, and the ramp-down is a zero, when the old gain is finite. -/
def Obligations.CrossfadeRunsItsLength : Prop :=
  ∀ (c : Config) (m : Memory) (v : VrVoice) (a : Frame), v.enabled = true →
    let r := vrVoiceSample c m v a
    let w := r.voices
    let vol := (slewStep v).curVol
    let pan := (slewStep v).curPan
    let gv := NUM.fmul (NUM.fdiv vol 0x42800000#32) c.masterVr
    let gL := NUM.fmul gv (NUM.fdiv (NUM.fsub 0x437F0000#32 pan) 0x437F0000#32)
    let gR := NUM.fmul gv (NUM.fdiv pan 0x437F0000#32)
    (r.stop = none →
      w.mixCounter = v.mixCounter - 1 ∧ w.live = (resolve (advance c v.live)).1 ∧ w.enabled = !(resolve (advance c v.live)).2 ∧
      (v.mixCounter = 1 →
        w.oldActive = false ∧
        (NUM.isNaN gL = false → w.mixRampUpL = gL) ∧ (NUM.isNaN gR = false → w.mixRampUpR = gR) ∧
        (NUM.isFinite v.oldGainL = true → NUM.val w.mixRampDownL = 0) ∧
        (NUM.isFinite v.oldGainR = true → NUM.val w.mixRampDownR = 0))) ∧
    ∀ (n : Nat) (sN sO : NUM), v.mixCounter = n + 1 → streamValue c m v.live = .ok sN →
      (v.oldActive = true → streamValue c m v.old = .ok sO) → (v.oldActive = false → sO = 0x00000000#32) →
      let kU := NUM.fdiv (NUM.toNUM (220 - (n : Int))) 0x435C0000#32
      let kD := NUM.fdiv (NUM.toNUM (n : Int)) 0x435C0000#32
      r.stop = none ∧ w.mixCounter = n ∧
      (w.mixRampUpL = NUM.fmul gL kU ∧ w.mixRampUpR = NUM.fmul gR kU ∧
        w.mixRampDownL = NUM.fmul v.oldGainL kD ∧ w.mixRampDownR = NUM.fmul v.oldGainR kD) ∧
      (v.mute = false →
        w.heldL = NUM.fadd (NUM.fmul sN (NUM.fmul gL kU)) (NUM.fmul sO (NUM.fmul v.oldGainL kD)) ∧
        w.heldR = NUM.fadd (NUM.fmul sN (NUM.fmul gR kU)) (NUM.fmul sO (NUM.fmul v.oldGainR kD))) ∧
      (v.mute = true → w.heldL = v.heldL ∧ w.heldR = v.heldR) ∧
      r.frames = ⟨NUM.fadd a.l w.heldL, NUM.fadd a.r w.heldR⟩ ∧
      (w.oldGainL = v.oldGainL ∧ w.oldGainR = v.oldGainR) ∧
      (v.oldActive = true →
        w.old = (resolve (advance c v.old)).1 ∧ w.oldActive = (!(resolve (advance c v.old)).2 && decide (n ≠ 0))) ∧
      (v.oldActive = false → w.old = v.old ∧ w.oldActive = false)

/-- The host duty of R113 for the variable-rate engine: while every stream that is mixed lies inside the arena, with its loop or its length,
mixing a segment of any length raises no fault and leaves every stream that is mixed inside. -/
def Obligations.VrRegionsInsideNeverFault : Prop :=
  ∀ (s : State) (i0 seg : Nat), s.cfg.backend = .vr → s.Inv → s.flr.fault = false → s.VrInRange → s.RegionsInside →
    (mixSegment i0 seg s).2 = none ∧ (mixSegment i0 seg s).1.RegionsInside

/-! ### Mixing, filter, conversion, numbers -/

/-- What MixSegment is (R454), and the two nestings of its loops. With no fault, mixing voice by voice and mixing sample by sample give the
same voices and the same frames, bit by bit, whatever one sample of one voice does (R210, R320). On the fixed-period backend a segment
runs `fpVoiceSample` over the voices in order on the entries `acc[i0 .. i0+seg−1]`, then the filter once on each of these entries in
index order, each from the histories the entry before left (R210, R402). On the variable-rate backend it runs `vrVoiceSample` over the
voices in order on the same entries, and no filter: the histories stay (R320, R402). Every other entry and register stays, and a fault
of the voices is the segment's. -/
def Obligations.MixingNestsEitherWay : Prop :=
  (∀ (V : Type) (f : V → Frame → Mixed V Frame) (vs : List V) (as : List Frame),
    (mixVoices f vs as).stop = none → mixVoices f vs as = mixSampleMajor f vs as) ∧
  (∀ (s : State) (i0 seg : Nat), s.cfg.backend = .fp →
    let m := mixVoices (fpVoiceSample s.cfg s.arena) s.fp ((s.acc.drop i0).take seg)
    let t := (mixSegment i0 seg s).1
    let filterAfter := fun j => (m.frames.take j).foldl (fun f a => (filterSample s.cfg f a).1) s.flt
    (mixSegment i0 seg s).2 = m.stop ∧
    (m.stop = none →
      t = { s with fp := m.voices, flt := filterAfter m.frames.length, acc := t.acc } ∧ t.acc.length = s.acc.length ∧
      m.frames.length = min seg (s.acc.length - i0) ∧
      (∀ j a, m.frames[j]? = some a → t.acc[i0 + j]? = some (filterSample s.cfg (filterAfter j) a).2) ∧
      ∀ i, i < i0 ∨ i0 + seg ≤ i → t.acc[i]? = s.acc[i]?)) ∧
  ∀ (s : State) (i0 seg : Nat), s.cfg.backend = .vr →
    let m := mixVoices (vrVoiceSample s.cfg s.arena) s.vr ((s.acc.drop i0).take seg)
    let t := (mixSegment i0 seg s).1
    (mixSegment i0 seg s).2 = m.stop ∧
    (m.stop = none →
      t = { s with vr := m.voices, acc := t.acc } ∧ t.acc.length = s.acc.length ∧
      m.frames.length = min seg (s.acc.length - i0) ∧
      (∀ j a, m.frames[j]? = some a → t.acc[i0 + j]? = some a) ∧
      ∀ i, i < i0 ∨ i0 + seg ≤ i → t.acc[i]? = s.acc[i]?)

/-- The chunk-size independence of R464, which the spec derives, for one segment: mixing `a + b` frames at once is mixing `a` frames and then
`b` frames, in voices, filter and accumulator. -/
def Obligations.SegmentsSplitAnywhere : Prop :=
  ∀ (s : State) (i0 a b : Nat), i0 + a + b ≤ s.acc.length → (mixSegment i0 (a + b) s).2 = none →
    (mixSegment i0 a s).2 = none ∧ mixSegment (i0 + a) b (mixSegment i0 a s).1 = mixSegment i0 (a + b) s

/-- FilterSample (R401, R403): with both LED flags clear the output is the second stage and the LED histories keep their values; with either
set the output is the fourth stage. The flags never change. -/
def Obligations.FilterStages : Prop :=
  ∀ (c : Config) (f : Filter) (a : Frame),
    let r := filterSample c f a
    let s1 := fun (x h : NUM) => NUM.fadd (NUM.fmul c.filtA1 x) (NUM.fmul (NUM.fsub 0x3F800000#32 c.filtA1) h)
    let s2 := fun (x h : NUM) => NUM.fadd (NUM.fmul c.filtA2 x) (NUM.fmul (NUM.fsub 0x3F800000#32 c.filtA2) h)
    let led := fun (x h : NUM) => NUM.fadd (NUM.fmul c.filtA3 x) (NUM.fmul (NUM.fsub 0x3F800000#32 c.filtA3) h)
    (r.1.left.s1 = s1 a.l f.left.s1 ∧ r.1.right.s1 = s1 a.r f.right.s1) ∧
    (r.1.left.s2 = s2 r.1.left.s1 f.left.s2 ∧ r.1.right.s2 = s2 r.1.right.s1 f.right.s2) ∧
    (r.1.ledActive = f.ledActive ∧ r.1.ledForced = f.ledForced) ∧
    (f.ledActive = false ∧ f.ledForced = false →
      r.2 = ⟨r.1.left.s2, r.1.right.s2⟩ ∧ r.1.left.s3 = f.left.s3 ∧ r.1.left.s4 = f.left.s4 ∧
        r.1.right.s3 = f.right.s3 ∧ r.1.right.s4 = f.right.s4) ∧
    (f.ledActive = true ∨ f.ledForced = true →
      r.1.left.s3 = led r.1.left.s2 f.left.s3 ∧ r.1.left.s4 = led r.1.left.s3 f.left.s4 ∧
        r.1.right.s3 = led r.1.right.s2 f.right.s3 ∧ r.1.right.s4 = led r.1.right.s3 f.right.s4 ∧
        r.2 = ⟨r.1.left.s4, r.1.right.s4⟩)

/-- Convert (R504, and R505, which the spec derives from it). For `x` in [−1, 1] it is the integer nearest to `fmul(x, 32767.0)`, and of two as
near the one away from zero. It is non-decreasing, is 32767 above 1.0 and CLIP_NEG below −1.0, gives −32767 at −1.0, and is odd on
[−1, 1]. -/
def Obligations.ConvertIsMonotoneAndOdd : Prop :=
  ∀ (c : Config) (x y : NUM), NUM.isNaN x = false → NUM.isNaN y = false →
    (NUM.val x ≤ NUM.val y → convert c x ≤ convert c y) ∧
    ((NUM.one149 : Int) < NUM.val x → convert c x = 32767) ∧
    (NUM.val x < -(NUM.one149 : Int) →
      convert c x = match c.backend with
        | .fp => if c.clipNegFp = .full then -32768 else -32767
        | .vr => if c.clipNegVr = .full then -32768 else -32767) ∧
    convert c 0xBF800000#32 = -32767 ∧
    (-(NUM.one149 : Int) ≤ NUM.val x → NUM.val x ≤ (NUM.one149 : Int) →
      (convert c (NUM.neg x) = -convert c x ∧ -32767 ≤ convert c x ∧ convert c x ≤ 32767) ∧
      let y := NUM.fmul x 0x46FFFE00#32
      let one : Int := NUM.one149
      NUM.isFinite y = true ∧ 2 * (convert c x * one - NUM.val y).natAbs ≤ NUM.one149 ∧
        (2 * (convert c x * one - NUM.val y).natAbs = NUM.one149 → (NUM.val y).natAbs < (convert c x * one).natAbs))

/-- WriteFrame (R503, R105): a frame is 4 bytes, left low, left high, right low, right high, and each pair of bytes is the two's complement
pattern of its 16-bit value. -/
def Obligations.FrameBytesAreLittleEndian : Prop :=
  ∀ (c : Config) (a : Frame), ∃ l0 l1 r0 r1 : Byte, frameBytes c a = [l0, l1, r0, r1] ∧
    (l1 ++ l0 : BitVec 16) = BitVec.ofInt 16 (convert c a.l) ∧ (r1 ++ r0 : BitVec 16) = BitVec.ofInt 16 (convert c a.r)

/-- The rounding of R11: the NUM that stands for `p / d` units of 2^−149 is a nearest one, with an even fraction when two are as near, and it
is an infinity exactly when `p / d` is at least 2^128 − 2^103. -/
def Obligations.RoundingIsNearestEven : Prop :=
  ∀ (sign : Bool) (p d : Nat), 0 < d →
    let r := NUM.ofRat sign p d
    NUM.signBit r = sign ∧ NUM.isNaN r = false ∧
    (NUM.isFinite r = false ↔ (2 ^ 277 - 2 ^ 252) * d ≤ p) ∧
    (NUM.isFinite r = true → ∀ y : NUM, NUM.isFinite y = true →
      ((NUM.units r : Int) * d - p).natAbs ≤ ((NUM.units y : Int) * d - p).natAbs ∧
      (((NUM.units r : Int) * d - p).natAbs = ((NUM.units y : Int) * d - p).natAbs → NUM.units y ≠ NUM.units r →
        NUM.fracField r % 2 = 0))

/-- The operations of R11 on finite operands are the exact results rounded once: the sum, the product and the quotient, in units of 2^−149. -/
def Obligations.OperationsRoundOnce : Prop :=
  ∀ a b : NUM, NUM.isFinite a = true → NUM.isFinite b = true →
    (∀ r : NUM, NUM.isFinite r = true → NUM.val r = NUM.val a + NUM.val b → NUM.val (NUM.fadd a b) = NUM.val r) ∧
    (∀ r : NUM, NUM.isFinite r = true → NUM.val r * (NUM.one149 : Int) = NUM.val a * NUM.val b →
      NUM.val (NUM.fmul a b) = NUM.val r) ∧
    (NUM.val b ≠ 0 → ∀ r : NUM, NUM.isFinite r = true → NUM.val r * NUM.val b = NUM.val a * (NUM.one149 : Int) →
      NUM.val (NUM.fdiv a b) = NUM.val r) ∧
    (NUM.val a + NUM.val b ≠ 0 →
      NUM.fadd a b = NUM.ofRat (decide (NUM.val a + NUM.val b < 0)) (NUM.val a + NUM.val b).natAbs 1) ∧
    NUM.fmul a b = NUM.ofRat (NUM.signBit a != NUM.signBit b) (NUM.val a * NUM.val b).natAbs (2 ^ 149) ∧
    (NUM.val b ≠ 0 →
      NUM.fdiv a b =
        NUM.ofRat (NUM.signBit a != NUM.signBit b) ((NUM.val a).natAbs * 2 ^ 149) (NUM.val b).natAbs)

/-- `toNUM` is exact on integers up to 2^24 in magnitude (R11), and an arena byte's sample value is exactly its signed value over 128, in
[−1.0, 127/128] (R15). -/
def Obligations.IntegersAndSamplesAreExact : Prop :=
  (∀ i : Int, i.natAbs ≤ 2 ^ 24 →
    NUM.isFinite (NUM.toNUM i) = true ∧ NUM.val (NUM.toNUM i) = i * (NUM.one149 : Int)) ∧
  ∀ b : Byte, NUM.isFinite (NUM.ofSample b) = true ∧ NUM.val (NUM.ofSample b) * 128 = b.toInt * (NUM.one149 : Int) ∧
    -(NUM.one149 : Int) ≤ NUM.val (NUM.ofSample b) ∧ NUM.val (NUM.ofSample b) * 128 ≤ 127 * (NUM.one149 : Int)
end

