-- ==== Sys2Proof/Laws/Memory.lean ====
section
/-! SUPPORT. Laws of the arena: the append keeps the canonical form, leaves every stored byte alone, and puts the new bytes at the
next free offsets. -/

namespace Sys2Proof.Machine

@[simp] theorem cellsFrom_length (a : Nat) (bs : List Byte) : (cellsFrom a bs).length = bs.length := by
  induction bs generalizing a with
  | nil => rfl
  | cons b bs ih => simp [cellsFrom, ih]

theorem cellsFrom_addresses (a : Nat) (bs : List Byte) : (cellsFrom a bs).map Prod.fst = List.range' a bs.length := by
  induction bs generalizing a with
  | nil => rfl
  | cons b bs ih => simp [cellsFrom, ih, List.range'_succ]

theorem cellsFrom_read (a : Nat) (bs : List Byte) (k : Nat) :
    Memory.read (cellsFrom a bs) k = if a ≤ k then bs[k - a]? else none := by
  induction bs generalizing a with
  | nil => simp [cellsFrom, Memory.read]
  | cons b bs ih =>
    rw [cellsFrom, Memory.read, ih]
    rcases Nat.lt_trichotomy a k with h | h | h
    · have h1 : k - a = (k - (a + 1)) + 1 := by omega
      rw [if_neg (by omega), if_pos (by omega), if_pos (by omega), h1, List.getElem?_cons_succ]
    · subst h
      simp
    · rw [if_neg (by omega), if_neg (by omega), if_neg (by omega)]

@[simp] theorem append_length (m : Memory) (bs : List Byte) : (m.append bs).length = m.length + bs.length := by
  simp [Memory.append]

theorem wf_iff (m : Memory) : m.wf = true ↔ m.map Prod.fst = List.range m.length := by
  simp [Memory.wf]

/-- The append keeps the canonical form. -/
theorem append_wf (m : Memory) (bs : List Byte) (h : m.wf = true) : (m.append bs).wf = true := by
  rw [wf_iff] at h ⊢
  simp only [Memory.append, List.map_append, List.length_append, cellsFrom_length, h, cellsFrom_addresses]
  rw [List.range_eq_range', List.range_eq_range']
  simpa using List.range'_append_1 (s := 0) (m := m.length) (n := bs.length)

theorem nil_wf : Memory.wf [] = true := by decide

/-- Reading from two lists of cells after each other: the first that lists the address gives the byte. -/
theorem read_append_cells (m n : Memory) (a : Nat) :
    Memory.read (m ++ n) a = match Memory.read m a with | some b => some b | none => Memory.read n a := by
  induction m with
  | nil => rfl
  | cons c m ih =>
    obtain ⟨k, b⟩ := c
    by_cases h : k = a
    · simp [Memory.read, h]
    · simp [Memory.read, h, ih]

theorem read_none_of_not_listed (m : Memory) (a : Nat) (h : a ∉ m.map Prod.fst) : Memory.read m a = none := by
  induction m with
  | nil => rfl
  | cons c m ih =>
    obtain ⟨k, b⟩ := c
    simp only [List.map_cons, List.mem_cons, not_or] at h
    simp [Memory.read, Ne.symm h.1, ih h.2]

theorem read_some_of_listed (m : Memory) (a : Nat) (h : a ∈ m.map Prod.fst) : ∃ b, Memory.read m a = some b := by
  induction m with
  | nil => simp at h
  | cons c m ih =>
    obtain ⟨k, b⟩ := c
    by_cases hk : k = a
    · exact ⟨b, by simp [Memory.read, hk]⟩
    · simp only [List.map_cons, List.mem_cons] at h
      obtain ⟨b', hb⟩ := ih (h.resolve_left fun e => hk e.symm)
      exact ⟨b', by simp [Memory.read, hk, hb]⟩

/-- In canonical form exactly the offsets below `arenaLen` can be read (R100, R112). -/
theorem read_isSome_iff (m : Memory) (h : m.wf = true) (a : Nat) : (Memory.read m a).isSome = true ↔ a < m.length := by
  rw [wf_iff] at h
  constructor
  · intro hs
    by_contra hn
    rw [read_none_of_not_listed m a (by simp [h]; omega)] at hs
    simp at hs
  · intro hl
    obtain ⟨b, hb⟩ := read_some_of_listed m a (by simp [h]; exact hl)
    simp [hb]

/-- A stored byte reads the same after an append (R47, R552). -/
theorem append_read_old (m : Memory) (bs : List Byte) (h : m.wf = true) (a : Nat) (ha : a < m.length) :
    (m.append bs).read a = m.read a := by
  obtain ⟨b, hb⟩ := Option.isSome_iff_exists.1 ((read_isSome_iff m h a).2 ha)
  simp [Memory.append, read_append_cells, hb]

/-- The appended bytes stand at the next free offsets (R550). -/
theorem append_read_new (m : Memory) (bs : List Byte) (h : m.wf = true) (j : Nat) :
    (m.append bs).read (m.length + j) = bs[j]? := by
  have hn : Memory.read m (m.length + j) = none := by
    rw [wf_iff] at h
    exact read_none_of_not_listed m _ (by simp [h])
  simp [Memory.append, read_append_cells, hn, cellsFrom_read]

end Sys2Proof.Machine
end

