-- ==== Sys2Proof/Laws/State.lean ====
section
/-! SUPPORT. One lemma per field per update of the state: what each named update leaves in each field. -/

namespace Sys2Proof.Machine

section
variable (s : State)

/-! ### reply (R145) -/

@[simp] theorem reply_cfg (st : Status) (v : Word) : (s.reply st v).cfg = s.cfg := rfl
@[simp] theorem reply_acc (st : Status) (v : Word) : (s.reply st v).acc = s.acc := rfl
@[simp] theorem reply_lastProduced (st : Status) (v : Word) : (s.reply st v).lastProduced = s.lastProduced := rfl
@[simp] theorem reply_drainPos (st : Status) (v : Word) : (s.reply st v).drainPos = s.drainPos := rfl
@[simp] theorem reply_arena (st : Status) (v : Word) : (s.reply st v).arena = s.arena := rfl
@[simp] theorem reply_isSealed (st : Status) (v : Word) : (s.reply st v).isSealed = s.isSealed := rfl
@[simp] theorem reply_fp (st : Status) (v : Word) : (s.reply st v).fp = s.fp := rfl
@[simp] theorem reply_vr (st : Status) (v : Word) : (s.reply st v).vr = s.vr := rfl
@[simp] theorem reply_clk (st : Status) (v : Word) : (s.reply st v).clk = s.clk := rfl
@[simp] theorem reply_flt (st : Status) (v : Word) : (s.reply st v).flt = s.flt := rfl
@[simp] theorem reply_snk (st : Status) (v : Word) : (s.reply st v).snk = s.snk := rfl
@[simp] theorem reply_rc (st : Status) (v : Word) : (s.reply st v).rc = s.rc := rfl
@[simp] theorem reply_flr (st : Status) (v : Word) : (s.reply st v).flr = s.flr := rfl
@[simp] theorem reply_port (st : Status) (v : Word) : (s.reply st v).port = { s.port with results := s.port.results ++ [⟨st, v⟩] } := rfl
@[simp] theorem reply_freeCtr (st : Status) (v : Word) : (s.reply st v).freeCtr = s.freeCtr := rfl

/-! ### refuseWith (R600) -/

@[simp] theorem refuseWith_cfg (st : Status) : (s.refuseWith st).cfg = s.cfg := rfl
@[simp] theorem refuseWith_acc (st : Status) : (s.refuseWith st).acc = s.acc := rfl
@[simp] theorem refuseWith_lastProduced (st : Status) : (s.refuseWith st).lastProduced = s.lastProduced := rfl
@[simp] theorem refuseWith_drainPos (st : Status) : (s.refuseWith st).drainPos = s.drainPos := rfl
@[simp] theorem refuseWith_arena (st : Status) : (s.refuseWith st).arena = s.arena := rfl
@[simp] theorem refuseWith_isSealed (st : Status) : (s.refuseWith st).isSealed = s.isSealed := rfl
@[simp] theorem refuseWith_fp (st : Status) : (s.refuseWith st).fp = s.fp := rfl
@[simp] theorem refuseWith_vr (st : Status) : (s.refuseWith st).vr = s.vr := rfl
@[simp] theorem refuseWith_clk (st : Status) : (s.refuseWith st).clk = s.clk := rfl
@[simp] theorem refuseWith_flt (st : Status) : (s.refuseWith st).flt = s.flt := rfl
@[simp] theorem refuseWith_snk (st : Status) : (s.refuseWith st).snk = s.snk := rfl
@[simp] theorem refuseWith_rc (st : Status) : (s.refuseWith st).rc = s.rc := rfl
@[simp] theorem refuseWith_flr (st : Status) : (s.refuseWith st).flr = s.flr := rfl
@[simp] theorem refuseWith_port (st : Status) : (s.refuseWith st).port = { s.port with results := s.port.results ++ [⟨st, 0⟩] } := rfl
@[simp] theorem refuseWith_freeCtr (st : Status) : (s.refuseWith st).freeCtr = s.freeCtr := rfl

/-! ### takeCommand (R102, R140) -/

@[simp] theorem takeCommand_cfg (c : Command) (rest : List Command) : (s.takeCommand c rest).cfg = s.cfg := rfl
@[simp] theorem takeCommand_acc (c : Command) (rest : List Command) : (s.takeCommand c rest).acc = s.acc := rfl
@[simp] theorem takeCommand_lastProduced (c : Command) (rest : List Command) : (s.takeCommand c rest).lastProduced = s.lastProduced := rfl
@[simp] theorem takeCommand_drainPos (c : Command) (rest : List Command) : (s.takeCommand c rest).drainPos = s.drainPos := rfl
@[simp] theorem takeCommand_arena (c : Command) (rest : List Command) : (s.takeCommand c rest).arena = s.arena := rfl
@[simp] theorem takeCommand_isSealed (c : Command) (rest : List Command) : (s.takeCommand c rest).isSealed = s.isSealed := rfl
@[simp] theorem takeCommand_fp (c : Command) (rest : List Command) : (s.takeCommand c rest).fp = s.fp := rfl
@[simp] theorem takeCommand_vr (c : Command) (rest : List Command) : (s.takeCommand c rest).vr = s.vr := rfl
@[simp] theorem takeCommand_clk (c : Command) (rest : List Command) : (s.takeCommand c rest).clk = s.clk := rfl
@[simp] theorem takeCommand_flt (c : Command) (rest : List Command) : (s.takeCommand c rest).flt = s.flt := rfl
@[simp] theorem takeCommand_snk (c : Command) (rest : List Command) : (s.takeCommand c rest).snk = s.snk := rfl
@[simp] theorem takeCommand_rc (c : Command) (rest : List Command) : (s.takeCommand c rest).rc = s.rc := rfl
@[simp] theorem takeCommand_flr (c : Command) (rest : List Command) : (s.takeCommand c rest).flr = s.flr := rfl
@[simp] theorem takeCommand_port (c : Command) (rest : List Command) : (s.takeCommand c rest).port = { s.port with inbox := rest, src := c.src, pos := c.pos } := rfl
@[simp] theorem takeCommand_freeCtr (c : Command) (rest : List Command) : (s.takeCommand c rest).freeCtr = s.freeCtr := rfl

/-! ### pushCommand (log 3) -/

@[simp] theorem pushCommand_cfg (p : Word × Word) : (s.pushCommand p).cfg = s.cfg := rfl
@[simp] theorem pushCommand_acc (p : Word × Word) : (s.pushCommand p).acc = s.acc := rfl
@[simp] theorem pushCommand_lastProduced (p : Word × Word) : (s.pushCommand p).lastProduced = s.lastProduced := rfl
@[simp] theorem pushCommand_drainPos (p : Word × Word) : (s.pushCommand p).drainPos = s.drainPos := rfl
@[simp] theorem pushCommand_arena (p : Word × Word) : (s.pushCommand p).arena = s.arena := rfl
@[simp] theorem pushCommand_isSealed (p : Word × Word) : (s.pushCommand p).isSealed = s.isSealed := rfl
@[simp] theorem pushCommand_fp (p : Word × Word) : (s.pushCommand p).fp = s.fp := rfl
@[simp] theorem pushCommand_vr (p : Word × Word) : (s.pushCommand p).vr = s.vr := rfl
@[simp] theorem pushCommand_clk (p : Word × Word) : (s.pushCommand p).clk = s.clk := rfl
@[simp] theorem pushCommand_flt (p : Word × Word) : (s.pushCommand p).flt = s.flt := rfl
@[simp] theorem pushCommand_snk (p : Word × Word) : (s.pushCommand p).snk = s.snk := rfl
@[simp] theorem pushCommand_rc (p : Word × Word) : (s.pushCommand p).rc = s.rc := rfl
@[simp] theorem pushCommand_flr (p : Word × Word) : (s.pushCommand p).flr = s.flr := rfl
@[simp] theorem pushCommand_port (p : Word × Word) : (s.pushCommand p).port = { s.port with inbox := ⟨p.1, p.2, [], 0⟩ :: s.port.inbox } := rfl
@[simp] theorem pushCommand_freeCtr (p : Word × Word) : (s.pushCommand p).freeCtr = s.freeCtr := rfl

/-! ### modFp (R50) -/

@[simp] theorem modFp_cfg (v : Nat) (f : FpVoice → FpVoice) : (s.modFp v f).cfg = s.cfg := rfl
@[simp] theorem modFp_acc (v : Nat) (f : FpVoice → FpVoice) : (s.modFp v f).acc = s.acc := rfl
@[simp] theorem modFp_lastProduced (v : Nat) (f : FpVoice → FpVoice) : (s.modFp v f).lastProduced = s.lastProduced := rfl
@[simp] theorem modFp_drainPos (v : Nat) (f : FpVoice → FpVoice) : (s.modFp v f).drainPos = s.drainPos := rfl
@[simp] theorem modFp_arena (v : Nat) (f : FpVoice → FpVoice) : (s.modFp v f).arena = s.arena := rfl
@[simp] theorem modFp_isSealed (v : Nat) (f : FpVoice → FpVoice) : (s.modFp v f).isSealed = s.isSealed := rfl
@[simp] theorem modFp_fp (v : Nat) (f : FpVoice → FpVoice) : (s.modFp v f).fp = s.fp.modify v f := rfl
@[simp] theorem modFp_vr (v : Nat) (f : FpVoice → FpVoice) : (s.modFp v f).vr = s.vr := rfl
@[simp] theorem modFp_clk (v : Nat) (f : FpVoice → FpVoice) : (s.modFp v f).clk = s.clk := rfl
@[simp] theorem modFp_flt (v : Nat) (f : FpVoice → FpVoice) : (s.modFp v f).flt = s.flt := rfl
@[simp] theorem modFp_snk (v : Nat) (f : FpVoice → FpVoice) : (s.modFp v f).snk = s.snk := rfl
@[simp] theorem modFp_rc (v : Nat) (f : FpVoice → FpVoice) : (s.modFp v f).rc = s.rc := rfl
@[simp] theorem modFp_flr (v : Nat) (f : FpVoice → FpVoice) : (s.modFp v f).flr = s.flr := rfl
@[simp] theorem modFp_port (v : Nat) (f : FpVoice → FpVoice) : (s.modFp v f).port = s.port := rfl
@[simp] theorem modFp_freeCtr (v : Nat) (f : FpVoice → FpVoice) : (s.modFp v f).freeCtr = s.freeCtr := rfl

/-! ### modVr (R55) -/

@[simp] theorem modVr_cfg (v : Nat) (f : VrVoice → VrVoice) : (s.modVr v f).cfg = s.cfg := rfl
@[simp] theorem modVr_acc (v : Nat) (f : VrVoice → VrVoice) : (s.modVr v f).acc = s.acc := rfl
@[simp] theorem modVr_lastProduced (v : Nat) (f : VrVoice → VrVoice) : (s.modVr v f).lastProduced = s.lastProduced := rfl
@[simp] theorem modVr_drainPos (v : Nat) (f : VrVoice → VrVoice) : (s.modVr v f).drainPos = s.drainPos := rfl
@[simp] theorem modVr_arena (v : Nat) (f : VrVoice → VrVoice) : (s.modVr v f).arena = s.arena := rfl
@[simp] theorem modVr_isSealed (v : Nat) (f : VrVoice → VrVoice) : (s.modVr v f).isSealed = s.isSealed := rfl
@[simp] theorem modVr_fp (v : Nat) (f : VrVoice → VrVoice) : (s.modVr v f).fp = s.fp := rfl
@[simp] theorem modVr_vr (v : Nat) (f : VrVoice → VrVoice) : (s.modVr v f).vr = s.vr.modify v f := rfl
@[simp] theorem modVr_clk (v : Nat) (f : VrVoice → VrVoice) : (s.modVr v f).clk = s.clk := rfl
@[simp] theorem modVr_flt (v : Nat) (f : VrVoice → VrVoice) : (s.modVr v f).flt = s.flt := rfl
@[simp] theorem modVr_snk (v : Nat) (f : VrVoice → VrVoice) : (s.modVr v f).snk = s.snk := rfl
@[simp] theorem modVr_rc (v : Nat) (f : VrVoice → VrVoice) : (s.modVr v f).rc = s.rc := rfl
@[simp] theorem modVr_flr (v : Nat) (f : VrVoice → VrVoice) : (s.modVr v f).flr = s.flr := rfl
@[simp] theorem modVr_port (v : Nat) (f : VrVoice → VrVoice) : (s.modVr v f).port = s.port := rfl
@[simp] theorem modVr_freeCtr (v : Nat) (f : VrVoice → VrVoice) : (s.modVr v f).freeCtr = s.freeCtr := rfl

/-! ### clearAcc (R43) -/

@[simp] theorem clearAcc_cfg : (s.clearAcc).cfg = s.cfg := rfl
@[simp] theorem clearAcc_acc : (s.clearAcc).acc = s.acc.map fun _ => Frame.zero := rfl
@[simp] theorem clearAcc_lastProduced : (s.clearAcc).lastProduced = s.lastProduced := rfl
@[simp] theorem clearAcc_drainPos : (s.clearAcc).drainPos = s.drainPos := rfl
@[simp] theorem clearAcc_arena : (s.clearAcc).arena = s.arena := rfl
@[simp] theorem clearAcc_isSealed : (s.clearAcc).isSealed = s.isSealed := rfl
@[simp] theorem clearAcc_fp : (s.clearAcc).fp = s.fp := rfl
@[simp] theorem clearAcc_vr : (s.clearAcc).vr = s.vr := rfl
@[simp] theorem clearAcc_clk : (s.clearAcc).clk = s.clk := rfl
@[simp] theorem clearAcc_flt : (s.clearAcc).flt = s.flt := rfl
@[simp] theorem clearAcc_snk : (s.clearAcc).snk = s.snk := rfl
@[simp] theorem clearAcc_rc : (s.clearAcc).rc = s.rc := rfl
@[simp] theorem clearAcc_flr : (s.clearAcc).flr = s.flr := rfl
@[simp] theorem clearAcc_port : (s.clearAcc).port = s.port := rfl
@[simp] theorem clearAcc_freeCtr : (s.clearAcc).freeCtr = s.freeCtr := rfl

/-! ### sinkWrite (R101) -/

@[simp] theorem sinkWrite_cfg (bs : List Byte) : (s.sinkWrite bs).cfg = s.cfg := rfl
@[simp] theorem sinkWrite_acc (bs : List Byte) : (s.sinkWrite bs).acc = s.acc := rfl
@[simp] theorem sinkWrite_lastProduced (bs : List Byte) : (s.sinkWrite bs).lastProduced = s.lastProduced := rfl
@[simp] theorem sinkWrite_drainPos (bs : List Byte) : (s.sinkWrite bs).drainPos = s.drainPos := rfl
@[simp] theorem sinkWrite_arena (bs : List Byte) : (s.sinkWrite bs).arena = s.arena := rfl
@[simp] theorem sinkWrite_isSealed (bs : List Byte) : (s.sinkWrite bs).isSealed = s.isSealed := rfl
@[simp] theorem sinkWrite_fp (bs : List Byte) : (s.sinkWrite bs).fp = s.fp := rfl
@[simp] theorem sinkWrite_vr (bs : List Byte) : (s.sinkWrite bs).vr = s.vr := rfl
@[simp] theorem sinkWrite_clk (bs : List Byte) : (s.sinkWrite bs).clk = s.clk := rfl
@[simp] theorem sinkWrite_flt (bs : List Byte) : (s.sinkWrite bs).flt = s.flt := rfl
@[simp] theorem sinkWrite_snk (bs : List Byte) : (s.sinkWrite bs).snk = s.snk := rfl
@[simp] theorem sinkWrite_rc (bs : List Byte) : (s.sinkWrite bs).rc = s.rc := rfl
@[simp] theorem sinkWrite_flr (bs : List Byte) : (s.sinkWrite bs).flr = s.flr := rfl
@[simp] theorem sinkWrite_port (bs : List Byte) : (s.sinkWrite bs).port = { s.port with pcm := s.port.pcm ++ bs } := rfl
@[simp] theorem sinkWrite_freeCtr (bs : List Byte) : (s.sinkWrite bs).freeCtr = s.freeCtr := rfl

/-! ### freeAcc (R605) -/

@[simp] theorem freeAcc_cfg : (s.freeAcc).cfg = s.cfg := rfl
@[simp] theorem freeAcc_acc : (s.freeAcc).acc = s.acc.mapIdx fun i _ => ⟨Config.freeChannel s.freeCtr (2 * i), Config.freeChannel s.freeCtr (2 * i + 1)⟩ := rfl
@[simp] theorem freeAcc_lastProduced : (s.freeAcc).lastProduced = s.lastProduced := rfl
@[simp] theorem freeAcc_drainPos : (s.freeAcc).drainPos = s.drainPos := rfl
@[simp] theorem freeAcc_arena : (s.freeAcc).arena = s.arena := rfl
@[simp] theorem freeAcc_isSealed : (s.freeAcc).isSealed = s.isSealed := rfl
@[simp] theorem freeAcc_fp : (s.freeAcc).fp = s.fp := rfl
@[simp] theorem freeAcc_vr : (s.freeAcc).vr = s.vr := rfl
@[simp] theorem freeAcc_clk : (s.freeAcc).clk = s.clk := rfl
@[simp] theorem freeAcc_flt : (s.freeAcc).flt = s.flt := rfl
@[simp] theorem freeAcc_snk : (s.freeAcc).snk = s.snk := rfl
@[simp] theorem freeAcc_rc : (s.freeAcc).rc = s.rc := rfl
@[simp] theorem freeAcc_flr : (s.freeAcc).flr = s.flr := rfl
@[simp] theorem freeAcc_port : (s.freeAcc).port = s.port := rfl
@[simp] theorem freeAcc_freeCtr : (s.freeAcc).freeCtr = s.freeCtr + 1 := rfl

/-! ### raiseFault (R605) -/

@[simp] theorem raiseFault_cfg (code : FaultCode) (addr : Nat) : (raiseFault code addr s).cfg = s.cfg := rfl
@[simp] theorem raiseFault_acc (code : FaultCode) (addr : Nat) : (raiseFault code addr s).acc = s.acc := rfl
@[simp] theorem raiseFault_lastProduced (code : FaultCode) (addr : Nat) : (raiseFault code addr s).lastProduced = s.lastProduced := rfl
@[simp] theorem raiseFault_drainPos (code : FaultCode) (addr : Nat) : (raiseFault code addr s).drainPos = s.drainPos := rfl
@[simp] theorem raiseFault_arena (code : FaultCode) (addr : Nat) : (raiseFault code addr s).arena = s.arena := rfl
@[simp] theorem raiseFault_isSealed (code : FaultCode) (addr : Nat) : (raiseFault code addr s).isSealed = s.isSealed := rfl
@[simp] theorem raiseFault_fp (code : FaultCode) (addr : Nat) : (raiseFault code addr s).fp = s.fp := rfl
@[simp] theorem raiseFault_vr (code : FaultCode) (addr : Nat) : (raiseFault code addr s).vr = s.vr := rfl
@[simp] theorem raiseFault_clk (code : FaultCode) (addr : Nat) : (raiseFault code addr s).clk = { s.clk with tickPending := false } := rfl
@[simp] theorem raiseFault_flt (code : FaultCode) (addr : Nat) : (raiseFault code addr s).flt = s.flt := rfl
@[simp] theorem raiseFault_snk (code : FaultCode) (addr : Nat) : (raiseFault code addr s).snk = s.snk := rfl
@[simp] theorem raiseFault_rc (code : FaultCode) (addr : Nat) : (raiseFault code addr s).rc = { s.rc with rActive := false } := rfl
@[simp] theorem raiseFault_flr (code : FaultCode) (addr : Nat) : (raiseFault code addr s).flr = { fault := true, faultCode := code, faultAddr := min addr 0xFFFFFFFF } := rfl
@[simp] theorem raiseFault_port (code : FaultCode) (addr : Nat) : (raiseFault code addr s).port = { s.port with results := s.port.results ++ [⟨.faulted, 0⟩] } := rfl
@[simp] theorem raiseFault_freeCtr (code : FaultCode) (addr : Nat) : (raiseFault code addr s).freeCtr = s.freeCtr := rfl

/-! ### tickEntry (R611) -/

@[simp] theorem tickEntry_cfg : (tickEntry s).cfg = s.cfg := rfl
@[simp] theorem tickEntry_acc : (tickEntry s).acc = s.acc := rfl
@[simp] theorem tickEntry_lastProduced : (tickEntry s).lastProduced = s.lastProduced := rfl
@[simp] theorem tickEntry_drainPos : (tickEntry s).drainPos = s.drainPos := rfl
@[simp] theorem tickEntry_arena : (tickEntry s).arena = s.arena := rfl
@[simp] theorem tickEntry_isSealed : (tickEntry s).isSealed = s.isSealed := rfl
@[simp] theorem tickEntry_fp : (tickEntry s).fp = s.fp := rfl
@[simp] theorem tickEntry_vr : (tickEntry s).vr = s.vr := rfl
@[simp] theorem tickEntry_clk : (tickEntry s).clk = { s.clk with tickPending := true } := rfl
@[simp] theorem tickEntry_flt : (tickEntry s).flt = s.flt := rfl
@[simp] theorem tickEntry_snk : (tickEntry s).snk = s.snk := rfl
@[simp] theorem tickEntry_rc : (tickEntry s).rc = s.rc := rfl
@[simp] theorem tickEntry_flr : (tickEntry s).flr = s.flr := rfl
@[simp] theorem tickEntry_port : (tickEntry s).port = { s.port with results := s.port.results ++ [⟨.tick, value s.rc.rProduced⟩] } := rfl
@[simp] theorem tickEntry_freeCtr : (tickEntry s).freeCtr = s.freeCtr := rfl

/-! ### endPass (R455) -/

@[simp] theorem endPass_cfg : (endPass s).cfg = s.cfg := rfl
@[simp] theorem endPass_acc : (endPass s).acc = s.acc := rfl
@[simp] theorem endPass_lastProduced : (endPass s).lastProduced = s.lastProduced := rfl
@[simp] theorem endPass_drainPos : (endPass s).drainPos = s.drainPos := rfl
@[simp] theorem endPass_arena : (endPass s).arena = s.arena := rfl
@[simp] theorem endPass_isSealed : (endPass s).isSealed = s.isSealed := rfl
@[simp] theorem endPass_fp : (endPass s).fp = s.fp := rfl
@[simp] theorem endPass_vr : (endPass s).vr = s.vr := rfl
@[simp] theorem endPass_clk : (endPass s).clk = s.clk := rfl
@[simp] theorem endPass_flt : (endPass s).flt = s.flt := rfl
@[simp] theorem endPass_snk : (endPass s).snk = s.snk := rfl
@[simp] theorem endPass_rc : (endPass s).rc = { s.rc with rActive := false } := rfl
@[simp] theorem endPass_flr : (endPass s).flr = s.flr := rfl
@[simp] theorem endPass_port : (endPass s).port = { s.port with results := s.port.results ++ [⟨.ok, value s.rc.rProduced⟩] } := rfl
@[simp] theorem endPass_freeCtr : (endPass s).freeCtr = s.freeCtr := rfl

/-! ### countSegment (R455) -/

@[simp] theorem countSegment_cfg (seg : Nat) : (s.countSegment seg).cfg = s.cfg := rfl
@[simp] theorem countSegment_acc (seg : Nat) : (s.countSegment seg).acc = s.acc := rfl
@[simp] theorem countSegment_lastProduced (seg : Nat) : (s.countSegment seg).lastProduced = s.rc.rProduced + seg := rfl
@[simp] theorem countSegment_drainPos (seg : Nat) : (s.countSegment seg).drainPos = s.drainPos := rfl
@[simp] theorem countSegment_arena (seg : Nat) : (s.countSegment seg).arena = s.arena := rfl
@[simp] theorem countSegment_isSealed (seg : Nat) : (s.countSegment seg).isSealed = s.isSealed := rfl
@[simp] theorem countSegment_fp (seg : Nat) : (s.countSegment seg).fp = s.fp := rfl
@[simp] theorem countSegment_vr (seg : Nat) : (s.countSegment seg).vr = s.vr := rfl
@[simp] theorem countSegment_clk (seg : Nat) : (s.countSegment seg).clk = { s.clk with samplesRemainingInTick := s.clk.samplesRemainingInTick - seg } := rfl
@[simp] theorem countSegment_flt (seg : Nat) : (s.countSegment seg).flt = s.flt := rfl
@[simp] theorem countSegment_snk (seg : Nat) : (s.countSegment seg).snk = s.snk := rfl
@[simp] theorem countSegment_rc (seg : Nat) : (s.countSegment seg).rc = { s.rc with rProduced := s.rc.rProduced + seg } := rfl
@[simp] theorem countSegment_flr (seg : Nat) : (s.countSegment seg).flr = s.flr := rfl
@[simp] theorem countSegment_port (seg : Nat) : (s.countSegment seg).port = s.port := rfl
@[simp] theorem countSegment_freeCtr (seg : Nat) : (s.countSegment seg).freeCtr = s.freeCtr := rfl

/-! ### startPass (R453) -/

@[simp] theorem startPass_cfg (n : Nat) : (s.startPass n).cfg = s.cfg := rfl
@[simp] theorem startPass_acc (n : Nat) : (s.startPass n).acc = s.acc.map fun _ => Frame.zero := rfl
@[simp] theorem startPass_lastProduced (n : Nat) : (s.startPass n).lastProduced = 0 := rfl
@[simp] theorem startPass_drainPos (n : Nat) : (s.startPass n).drainPos = 0 := rfl
@[simp] theorem startPass_arena (n : Nat) : (s.startPass n).arena = s.arena := rfl
@[simp] theorem startPass_isSealed (n : Nat) : (s.startPass n).isSealed = true := rfl
@[simp] theorem startPass_fp (n : Nat) : (s.startPass n).fp = s.fp := rfl
@[simp] theorem startPass_vr (n : Nat) : (s.startPass n).vr = s.vr := rfl
@[simp] theorem startPass_clk (n : Nat) : (s.startPass n).clk = s.clk := rfl
@[simp] theorem startPass_flt (n : Nat) : (s.startPass n).flt = s.flt := rfl
@[simp] theorem startPass_snk (n : Nat) : (s.startPass n).snk = s.snk := rfl
@[simp] theorem startPass_rc (n : Nat) : (s.startPass n).rc = { rActive := true, rRequested := n, rTarget := n, rProduced := 0 } := rfl
@[simp] theorem startPass_flr (n : Nat) : (s.startPass n).flr = s.flr := rfl
@[simp] theorem startPass_port (n : Nat) : (s.startPass n).port = s.port := rfl
@[simp] theorem startPass_freeCtr (n : Nat) : (s.startPass n).freeCtr = s.freeCtr := rfl

/-! ### resetRegisters (R702) -/

@[simp] theorem resetRegisters_cfg : (s.resetRegisters).cfg = s.cfg := rfl
@[simp] theorem resetRegisters_acc : (s.resetRegisters).acc = List.replicate s.cfg.chunkN Frame.zero := rfl
@[simp] theorem resetRegisters_lastProduced : (s.resetRegisters).lastProduced = 0 := rfl
@[simp] theorem resetRegisters_drainPos : (s.resetRegisters).drainPos = 0 := rfl
@[simp] theorem resetRegisters_arena : (s.resetRegisters).arena = [] := rfl
@[simp] theorem resetRegisters_isSealed : (s.resetRegisters).isSealed = false := rfl
@[simp] theorem resetRegisters_fp : (s.resetRegisters).fp = fpBank s.cfg := rfl
@[simp] theorem resetRegisters_vr : (s.resetRegisters).vr = vrBank s.cfg := rfl
@[simp] theorem resetRegisters_clk : (s.resetRegisters).clk = (State.powerOn s.cfg).clk := rfl
@[simp] theorem resetRegisters_flt : (s.resetRegisters).flt = (State.powerOn s.cfg).flt := rfl
@[simp] theorem resetRegisters_snk : (s.resetRegisters).snk = (State.powerOn s.cfg).snk := rfl
@[simp] theorem resetRegisters_rc : (s.resetRegisters).rc = (State.powerOn s.cfg).rc := rfl
@[simp] theorem resetRegisters_flr : (s.resetRegisters).flr = (State.powerOn s.cfg).flr := rfl
@[simp] theorem resetRegisters_port : (s.resetRegisters).port = s.port := rfl
@[simp] theorem resetRegisters_freeCtr : (s.resetRegisters).freeCtr = s.freeCtr := rfl

/-! ### tickReturn (R456) -/

@[simp] theorem tickReturn_cfg (e : Bool) : (tickReturn e s).cfg = s.cfg := by
  unfold tickReturn
  split <;> rfl
@[simp] theorem tickReturn_acc (e : Bool) : (tickReturn e s).acc = s.acc := by
  unfold tickReturn
  split <;> rfl
@[simp] theorem tickReturn_lastProduced (e : Bool) : (tickReturn e s).lastProduced = s.lastProduced := by
  unfold tickReturn
  split <;> rfl
@[simp] theorem tickReturn_drainPos (e : Bool) : (tickReturn e s).drainPos = s.drainPos := by
  unfold tickReturn
  split <;> rfl
@[simp] theorem tickReturn_arena (e : Bool) : (tickReturn e s).arena = s.arena := by
  unfold tickReturn
  split <;> rfl
@[simp] theorem tickReturn_isSealed (e : Bool) : (tickReturn e s).isSealed = s.isSealed := by
  unfold tickReturn
  split <;> rfl
@[simp] theorem tickReturn_fp (e : Bool) : (tickReturn e s).fp = s.fp := by
  unfold tickReturn
  split <;> rfl
@[simp] theorem tickReturn_vr (e : Bool) : (tickReturn e s).vr = s.vr := by
  unfold tickReturn
  split <;> rfl
@[simp] theorem tickReturn_flt (e : Bool) : (tickReturn e s).flt = s.flt := by
  unfold tickReturn
  split <;> rfl
@[simp] theorem tickReturn_snk (e : Bool) : (tickReturn e s).snk = s.snk := by
  unfold tickReturn
  split <;> rfl
@[simp] theorem tickReturn_flr (e : Bool) : (tickReturn e s).flr = s.flr := by
  unfold tickReturn
  split <;> rfl
@[simp] theorem tickReturn_port (e : Bool) : (tickReturn e s).port = s.port := by
  unfold tickReturn
  split <;> rfl
@[simp] theorem tickReturn_freeCtr (e : Bool) : (tickReturn e s).freeCtr = s.freeCtr := by
  unfold tickReturn
  split <;> rfl

/-- A tick return that does not complete the song only clears the request and loads the tick budget. -/
theorem tickReturn_keeps (e : Bool) (h : (e && !s.clk.loopSong) = false) :
    tickReturn e s =
      { s with clk := { s.clk with tickPending := false, samplesRemainingInTick := s.clk.samplesPerTick } } := by
  simp [tickReturn, h]

/-- A song end that is not suppressed completes the song and lowers the target. -/
theorem tickReturn_completes (e : Bool) (h : (e && !s.clk.loopSong) = true) :
    tickReturn e s =
      { s with
        clk := { s.clk with
          tickPending := false
          samplesRemainingInTick := s.clk.samplesPerTick
          state := .completed
          remainingAfterCompletion := s.rc.rRequested - min s.rc.rTarget (s.rc.rProduced + s.clk.samplesPerTick) }
        rc := { s.rc with rTarget := min s.rc.rTarget (s.rc.rProduced + s.clk.samplesPerTick) } } := by
  simp [tickReturn, h]

/-! ### initRegisters (R450, R703) -/

@[simp] theorem initRegisters_cfg : (s.initRegisters).cfg = s.cfg := rfl
@[simp] theorem initRegisters_acc : (s.initRegisters).acc = s.acc.map fun _ => Frame.zero := rfl
@[simp] theorem initRegisters_lastProduced : (s.initRegisters).lastProduced = 0 := rfl
@[simp] theorem initRegisters_drainPos : (s.initRegisters).drainPos = 0 := rfl
@[simp] theorem initRegisters_arena : (s.initRegisters).arena = s.arena := rfl
@[simp] theorem initRegisters_isSealed : (s.initRegisters).isSealed = s.isSealed := rfl
@[simp] theorem initRegisters_fp : (s.initRegisters).fp = fpBank s.cfg := rfl
@[simp] theorem initRegisters_vr : (s.initRegisters).vr = vrBank s.cfg := rfl
@[simp] theorem initRegisters_flt : (s.initRegisters).flt = { s.flt with left := ⟨0, 0, 0, 0⟩, right := ⟨0, 0, 0, 0⟩ } := rfl
@[simp] theorem initRegisters_snk : (s.initRegisters).snk = { s.snk with drainShortfall := 0, sinkFull := false } := rfl
@[simp] theorem initRegisters_rc : (s.initRegisters).rc = { rActive := false, rRequested := 0, rTarget := 0, rProduced := 0 } := rfl
@[simp] theorem initRegisters_flr : (s.initRegisters).flr = s.flr := rfl
@[simp] theorem initRegisters_port : (s.initRegisters).port = s.port := rfl
@[simp] theorem initRegisters_freeCtr : (s.initRegisters).freeCtr = s.freeCtr := rfl

/-! ### drainFrames (R501) -/

@[simp] theorem drainFrames_cfg (n : Nat) : (s.drainFrames n).cfg =
    s.cfg := rfl
@[simp] theorem drainFrames_acc (n : Nat) : (s.drainFrames n).acc =
    putFrames s.acc s.drainPos (s.drainCount n) ((framesAt s.acc s.drainPos (s.drainCount n)).map fun _ => Frame.zero) := rfl
@[simp] theorem drainFrames_lastProduced (n : Nat) : (s.drainFrames n).lastProduced =
    s.lastProduced := rfl
@[simp] theorem drainFrames_drainPos (n : Nat) : (s.drainFrames n).drainPos =
    s.drainPos + s.drainCount n := rfl
@[simp] theorem drainFrames_arena (n : Nat) : (s.drainFrames n).arena =
    s.arena := rfl
@[simp] theorem drainFrames_isSealed (n : Nat) : (s.drainFrames n).isSealed =
    s.isSealed := rfl
@[simp] theorem drainFrames_fp (n : Nat) : (s.drainFrames n).fp =
    s.fp := rfl
@[simp] theorem drainFrames_vr (n : Nat) : (s.drainFrames n).vr =
    s.vr := rfl
@[simp] theorem drainFrames_clk (n : Nat) : (s.drainFrames n).clk =
    s.clk := rfl
@[simp] theorem drainFrames_flt (n : Nat) : (s.drainFrames n).flt =
    s.flt := rfl
@[simp] theorem drainFrames_snk (n : Nat) : (s.drainFrames n).snk =
    { sinkAvail := s.snk.sinkAvail - 4 * s.drainCount n, drainShortfall := n - s.drainCount n, sinkFull := decide (s.drainCount n < n) } := rfl
@[simp] theorem drainFrames_rc (n : Nat) : (s.drainFrames n).rc =
    s.rc := rfl
@[simp] theorem drainFrames_flr (n : Nat) : (s.drainFrames n).flr =
    s.flr := rfl
@[simp] theorem drainFrames_port (n : Nat) : (s.drainFrames n).port =
    { s.port with pcm := s.port.pcm ++ (framesAt s.acc s.drainPos (s.drainCount n)).flatMap (frameBytes s.cfg) } := rfl
@[simp] theorem drainFrames_freeCtr (n : Nat) : (s.drainFrames n).freeCtr =
    s.freeCtr := rfl

end

end Sys2Proof.Machine
end

