-- ==== Sys2Proof/Laws/Ops.lean ====
section
/-! SUPPORT. One lemma per shared operation that says everything it can do. -/

namespace Sys2Proof.Machine

section
variable {s t : State}

/-- The first failing check decides; with none failing there is no error. -/
theorem firstError_none (l : List (Bool × Status)) : firstError l = none ↔ ∀ c ∈ l, c.1 = false := by
  induction l with
  | nil => simp [firstError]
  | cons c l ih =>
    obtain ⟨b, st⟩ := c
    cases b <;> simp [firstError, ih]

theorem firstError_mem {l : List (Bool × Status)} {st : Status} (h : firstError l = some st) : (true, st) ∈ l := by
  induction l with
  | nil => simp [firstError] at h
  | cons c l ih =>
    obtain ⟨b, st'⟩ := c
    cases b
    · simp only [firstError] at h
      exact List.mem_cons_of_mem _ (ih h)
    · simp only [firstError, if_true, Option.some.injEq] at h
      simp [h]

/-- A guarded command either is refused by its first failing check, or passes every check and acts. -/
theorem guarded_cases (checks : List (Bool × Status)) (act : Answer) :
    (∃ st, firstError checks = some st ∧ guarded checks s act = .next (s.refuseWith st)) ∨
      ((∀ c ∈ checks, c.1 = false) ∧ guarded checks s act = act) := by
  unfold guarded
  split
  next st h => exact .inl ⟨st, h, rfl⟩
  next h => exact .inr ⟨(firstError_none _).1 h, rfl⟩

/-- A guarded command none of whose checks fails acts. -/
theorem guarded_passes {checks : List (Bool × Status)} {act : Answer} (h : ∀ c ∈ checks, c.1 = false) :
    guarded checks s act = act := by
  unfold guarded
  rw [(firstError_none _).2 h]

/-- A guarded command whose checks fail first at `st` is refused with it. -/
theorem guarded_refuses {checks : List (Bool × Status)} {act : Answer} {st : Status} (h : firstError checks = some st) :
    guarded checks s act = .next (s.refuseWith st) := by
  unfold guarded
  rw [h]

/-- A fixed-period voice write is refused, or it writes the one voice and answers `OK(0)`. -/
theorem fpWrite_cases {α : Type} (v : BitVec 8) (operand : Option α) (f : α → FpVoice → FpVoice) :
    (∃ st, firstError (voiceChecks .fp v operand.isSome s) = some st ∧ fpWrite v operand f s = .next (s.refuseWith st)) ∨
      (s.cfg.backend = .fp ∧ s.flr.fault = false ∧ v.toNat < s.cfg.voiceCount ∧
        ∃ x, operand = some x ∧ fpWrite v operand f s = .next ((s.modFp v.toNat (f x)).reply .ok 0)) := by
  unfold fpWrite
  cases operand with
  | none =>
    rcases guarded_cases (s := s) (voiceChecks .fp v (none : Option α).isSome s) (.next (s.refuseWith .badValue)) with h | h
    · exact .inl h
    · exact absurd (h.1 (true, .badValue) (by simp [voiceChecks])) (by simp)
  | some x =>
    rcases guarded_cases (s := s) (voiceChecks .fp v (some x).isSome s)
      (.next ((s.modFp v.toNat (f x)).reply .ok 0)) with h | ⟨h1, h2⟩
    · exact .inl h
    · simp only [voiceChecks, List.mem_cons, List.not_mem_nil, or_false, forall_eq_or_imp, forall_eq, bne_eq_false_iff_eq,
        decide_eq_false_iff_not, not_le] at h1
      exact .inr ⟨h1.1, h1.2.1, h1.2.2.1, x, rfl, h2⟩

/-- A variable-rate voice write is refused, or it writes the one voice and answers `OK(0)`. -/
theorem vrWrite_cases {α : Type} (v : BitVec 8) (operand : Option α) (f : α → VrVoice → VrVoice) :
    (∃ st, firstError (voiceChecks .vr v operand.isSome s) = some st ∧ vrWrite v operand f s = .next (s.refuseWith st)) ∨
      (s.cfg.backend = .vr ∧ s.flr.fault = false ∧ v.toNat < s.cfg.voiceCount ∧
        ∃ x, operand = some x ∧ vrWrite v operand f s = .next ((s.modVr v.toNat (f x)).reply .ok 0)) := by
  unfold vrWrite
  cases operand with
  | none =>
    rcases guarded_cases (s := s) (voiceChecks .vr v (none : Option α).isSome s) (.next (s.refuseWith .badValue)) with h | h
    · exact .inl h
    · exact absurd (h.1 (true, .badValue) (by simp [voiceChecks])) (by simp)
  | some x =>
    rcases guarded_cases (s := s) (voiceChecks .vr v (some x).isSome s)
      (.next ((s.modVr v.toNat (f x)).reply .ok 0)) with h | ⟨h1, h2⟩
    · exact .inl h
    · simp only [voiceChecks, List.mem_cons, List.not_mem_nil, or_false, forall_eq_or_imp, forall_eq, bne_eq_false_iff_eq,
        decide_eq_false_iff_not, not_le] at h1
      exact .inr ⟨h1.1, h1.2.1, h1.2.2.1, x, rfl, h2⟩

/-- Mixing that stops ends the command with an ArenaRangeFault over a free accumulator, or with the model's own fault. -/
theorem stopMixing_cases (e : MixStop) :
    (∃ a, e = .arenaRange a ∧ stopMixing e s = .next (raiseFault .arenaRange a s.freeAcc)) ∨
      (e = .fetchLoop ∧ stopMixing e s = .fault .fetchLoopUnbounded) := by
  cases e with
  | arenaRange a => exact .inl ⟨a, rfl, rfl⟩
  | fetchLoop => exact .inr ⟨rfl, rfl⟩

/-- Selecting a backend keeps the state, or swaps in the voices of the other backend and nothing else. -/
theorem selectBackend_cases (i : Option Instr) :
    s.selectBackend i = s ∨
      ∃ b, s.selectBackend i =
        { s with cfg := { s.cfg with backend := b }
                 fp := fpBank { s.cfg with backend := b }
                 vr := vrBank { s.cfg with backend := b } } := by
  unfold State.selectBackend
  split
  · exact .inl rfl
  next b _ =>
    split
    · exact .inl rfl
    · exact .inr ⟨b, rfl⟩

end

section
variable {V : Type} (f : V → Frame → Mixed V Frame)

theorem mixVoice_nil (v : V) : mixVoice f v [] = ⟨v, [], none⟩ := rfl

theorem mixVoice_cons_stop (v : V) (a : Frame) (as : List Frame) (e : MixStop) (h : (f v a).stop = some e) :
    mixVoice f v (a :: as) = ⟨(f v a).voices, (f v a).frames :: as, some e⟩ := by
  simp [mixVoice, h]

theorem mixVoice_cons_go (v : V) (a : Frame) (as : List Frame) (h : (f v a).stop = none) :
    mixVoice f v (a :: as) =
      ⟨(mixVoice f (f v a).voices as).voices, (f v a).frames :: (mixVoice f (f v a).voices as).frames,
        (mixVoice f (f v a).voices as).stop⟩ := by
  simp [mixVoice, h]

/-- Mixing neither adds nor drops frames. -/
@[simp] theorem mixVoice_frames_length (v : V) (as : List Frame) : (mixVoice f v as).frames.length = as.length := by
  induction as generalizing v with
  | nil => rfl
  | cons a as ih =>
    cases h : (f v a).stop with
    | none => simp [mixVoice_cons_go f v a as h, ih]
    | some e => simp [mixVoice_cons_stop f v a as e h]

@[simp] theorem mixVoices_frames_length (vs : List V) (as : List Frame) :
    (mixVoices f vs as).frames.length = as.length := by
  induction vs generalizing as with
  | nil => rfl
  | cons v vs ih =>
    simp only [mixVoices]
    split <;> simp [ih]

@[simp] theorem mixVoices_voices_length (vs : List V) (as : List Frame) :
    (mixVoices f vs as).voices.length = vs.length := by
  induction vs generalizing as with
  | nil => rfl
  | cons v vs ih =>
    simp only [mixVoices]
    split <;> simp [ih]

/-- Package of the induction over a segment: what every sample keeps of a voice, mixing a voice keeps. -/
theorem mixVoice_keeps (P : V → Prop) (hf : ∀ v a, P v → P (f v a).voices) (v : V) (as : List Frame) (h : P v) :
    P (mixVoice f v as).voices := by
  induction as generalizing v with
  | nil => exact h
  | cons a as ih =>
    cases hs : (f v a).stop with
    | none => rw [mixVoice_cons_go f v a as hs]; exact ih _ (hf v a h)
    | some e => rw [mixVoice_cons_stop f v a as e hs]; exact hf v a h

/-- What every sample keeps of a voice, mixing a segment keeps of every voice. -/
theorem mixVoices_keeps (P : V → Prop) (hf : ∀ v a, P v → P (f v a).voices) (vs : List V) (as : List Frame)
    (h : ∀ v ∈ vs, P v) : ∀ v ∈ (mixVoices f vs as).voices, P v := by
  induction vs generalizing as with
  | nil => exact h
  | cons v vs ih =>
    have hv := mixVoice_keeps f P hf v as (h v (by simp))
    have hvs : ∀ w ∈ vs, P w := fun w hw => h w (by simp [hw])
    simp only [mixVoices]
    split
    · intro w hw
      simp only [List.mem_cons] at hw
      rcases hw with rfl | hw
      · exact hv
      · exact hvs w hw
    · intro w hw
      simp only [List.mem_cons] at hw
      rcases hw with rfl | hw
      · exact hv
      · exact ih _ hvs w hw

end

@[simp] theorem framesAt_length (acc : List Frame) (i n : Nat) : (framesAt acc i n).length = min n (acc.length - i) := by
  simp [framesAt]

/-- Replacing entries by as many entries keeps the accumulator's size. -/
theorem putFrames_length (acc : List Frame) (i n : Nat) (fs : List Frame) (h : fs.length = (framesAt acc i n).length) :
    (putFrames acc i n fs).length = acc.length := by
  simp only [framesAt_length] at h
  simp [putFrames, h]
  omega

/-- Replacing the entries of a segment: the length stays, the segment reads as the new frames, every other entry stays. -/
theorem putFrames_reads (acc : List Frame) (i n : Nat) (fs : List Frame) (h : fs.length = min n (acc.length - i)) :
    (putFrames acc i n fs).length = acc.length ∧
      (∀ j a, fs[j]? = some a → (putFrames acc i n fs)[i + j]? = some a) ∧
      ∀ k, k < i ∨ i + n ≤ k → (putFrames acc i n fs)[k]? = acc[k]? := by
  unfold putFrames
  refine ⟨by simp [h]; omega, fun j a hj => ?_, fun k hk => ?_⟩
  · have := (List.getElem?_eq_some_iff.1 hj).1
    rw [List.append_assoc, List.getElem?_append_right (by simp), List.getElem?_append_left (by simp; omega), ← hj]
    congr 1
    simp
    omega
  · rcases hk with hk | hk
    · by_cases hl : k < acc.length
      · rw [List.append_assoc, List.getElem?_append_left (by simp; omega)]
        simp [hk]
      · rw [List.getElem?_eq_none (by simp [h]; omega), List.getElem?_eq_none (by omega)]
    · by_cases hl : i + n ≤ acc.length
      · rw [List.getElem?_append_right (by simp [h]; omega)]
        simp [h]
        congr 1
        omega
      · rw [List.getElem?_eq_none (by simp [h]; omega), List.getElem?_eq_none (by omega)]

@[simp] theorem filterFrames_length (c : Config) (f : Filter) (as : List Frame) :
    (filterFrames c f as).2.length = as.length := by
  induction as generalizing f with
  | nil => rfl
  | cons a as ih => simp [filterFrames, ih]

end Sys2Proof.Machine
end

