-- ==== Sys2Proof/Laws/PerInstr.lean ====
section
/-! SUPPORT. Statements made per command, as syntax: the encoding has its reserved bits 0 (R140, R147). -/

namespace Sys2Proof

/-- `OP`, `VOICE` and `RSV` of a command word built by `cmdWord`. -/
theorem cmdRsv_cmdWord (op : Nat) (v : BitVec 8) : cmdRsv (cmdWord op v) = 0 := by
  unfold cmdRsv cmdWord
  rw [BitVec.toNat_ofNat]
  omega

theorem cmdOp_cmdWord (op : Nat) (v : BitVec 8) (h : op < 256) : cmdOp (cmdWord op v) = op := by
  unfold cmdOp cmdWord
  have hv := v.isLt
  rw [BitVec.toNat_ofNat]
  omega

theorem cmdVoice_cmdWord (op : Nat) (v : BitVec 8) : cmdVoice (cmdWord op v) = v := by
  unfold cmdVoice cmdWord
  have hv := v.isLt
  apply BitVec.eq_of_toNat_eq
  rw [BitVec.toNat_ofNat, BitVec.toNat_ofNat]
  omega

/-- A command word is the encoding of its own three fields. -/
theorem cmdWord_fields (cmd : Word) (h : cmdRsv cmd = 0) : cmdWord (cmdOp cmd) (cmdVoice cmd) = cmd := by
  have hc := cmd.isLt
  unfold cmdRsv at h
  unfold cmdWord cmdOp cmdVoice
  apply BitVec.eq_of_toNat_eq
  rw [BitVec.toNat_ofNat, BitVec.toNat_ofNat]
  omega

namespace Laws.ReservedZero

/-- The reserved bits of a command's encoding are 0 (R140). -/
def Statement (i : Instr) : Prop := cmdRsv (encode i).1 = 0

theorem reset (d : Word) : Statement (.reset d) := cmdRsv_cmdWord _ _
theorem init (d : Word) : Statement (.init d) := cmdRsv_cmdWord _ _
theorem render (d : Word) : Statement (.render d) := cmdRsv_cmdWord _ _
theorem tickdone (d : Word) : Statement (.tickdone d) := cmdRsv_cmdWord _ _
theorem drain (d : Word) : Statement (.drain d) := cmdRsv_cmdWord _ _
theorem setsink (d : Word) : Statement (.setsink d) := cmdRsv_cmdWord _ _
theorem store (d : Word) : Statement (.store d) := cmdRsv_cmdWord _ _
theorem settempo (d : Word) : Statement (.settempo d) := cmdRsv_cmdWord _ _
theorem setspeed (d : Word) : Statement (.setspeed d) := cmdRsv_cmdWord _ _
theorem setloop (d : Word) : Statement (.setloop d) := cmdRsv_cmdWord _ _
theorem setled (d : Word) : Statement (.setled d) := cmdRsv_cmdWord _ _
theorem status (d : Word) : Statement (.status d) := cmdRsv_cmdWord _ _
theorem read (d : Word) : Statement (.read d) := cmdRsv_cmdWord _ _
theorem fpEnable (v : BitVec 8) (d : Word) : Statement (.fpEnable v d) := cmdRsv_cmdWord _ _
theorem fpPeriod (v : BitVec 8) (d : Word) : Statement (.fpPeriod v d) := cmdRsv_cmdWord _ _
theorem fpVolume (v : BitVec 8) (d : Word) : Statement (.fpVolume v d) := cmdRsv_cmdWord _ _
theorem fpPointer (v : BitVec 8) (d : Word) : Statement (.fpPointer v d) := cmdRsv_cmdWord _ _
theorem fpLength (v : BitVec 8) (d : Word) : Statement (.fpLength v d) := cmdRsv_cmdWord _ _
theorem fpLoopPointer (v : BitVec 8) (d : Word) : Statement (.fpLoopPointer v d) := cmdRsv_cmdWord _ _
theorem fpLoopLength (v : BitVec 8) (d : Word) : Statement (.fpLoopLength v d) := cmdRsv_cmdWord _ _
theorem fpMute (v : BitVec 8) (d : Word) : Statement (.fpMute v d) := cmdRsv_cmdWord _ _
theorem fpPanning (v : BitVec 8) (d : Word) : Statement (.fpPanning v d) := cmdRsv_cmdWord _ _
theorem vrEnable (v : BitVec 8) (d : Word) : Statement (.vrEnable v d) := cmdRsv_cmdWord _ _
theorem vrSpeed (v : BitVec 8) (d : Word) : Statement (.vrSpeed v d) := cmdRsv_cmdWord _ _
theorem vrDirection (v : BitVec 8) (d : Word) : Statement (.vrDirection v d) := cmdRsv_cmdWord _ _
theorem vrFraction (v : BitVec 8) (d : Word) : Statement (.vrFraction v d) := cmdRsv_cmdWord _ _
theorem vrVolume (v : BitVec 8) (d : Word) : Statement (.vrVolume v d) := cmdRsv_cmdWord _ _
theorem vrPanning (v : BitVec 8) (d : Word) : Statement (.vrPanning v d) := cmdRsv_cmdWord _ _
theorem vrPointer (v : BitVec 8) (d : Word) : Statement (.vrPointer v d) := cmdRsv_cmdWord _ _
theorem vrLength (v : BitVec 8) (d : Word) : Statement (.vrLength v d) := cmdRsv_cmdWord _ _
theorem vrLoopStart (v : BitVec 8) (d : Word) : Statement (.vrLoopStart v d) := cmdRsv_cmdWord _ _
theorem vrLoopLength (v : BitVec 8) (d : Word) : Statement (.vrLoopLength v d) := cmdRsv_cmdWord _ _
theorem vrLoopMode (v : BitVec 8) (d : Word) : Statement (.vrLoopMode v d) := cmdRsv_cmdWord _ _
theorem vrMute (v : BitVec 8) (d : Word) : Statement (.vrMute v d) := cmdRsv_cmdWord _ _
theorem vrNextBase (v : BitVec 8) (d : Word) : Statement (.vrNextBase v d) := cmdRsv_cmdWord _ _
theorem vrNextLength (v : BitVec 8) (d : Word) : Statement (.vrNextLength v d) := cmdRsv_cmdWord _ _
theorem vrNextLoopStart (v : BitVec 8) (d : Word) : Statement (.vrNextLoopStart v d) := cmdRsv_cmdWord _ _
theorem vrNextLoopLength (v : BitVec 8) (d : Word) : Statement (.vrNextLoopLength v d) := cmdRsv_cmdWord _ _
theorem vrNextLoopMode (v : BitVec 8) (d : Word) : Statement (.vrNextLoopMode v d) := cmdRsv_cmdWord _ _
theorem vrTrigger (v : BitVec 8) (d : Word) : Statement (.vrTrigger v d) := cmdRsv_cmdWord _ _

end Laws.ReservedZero

end Sys2Proof
end

