-- ==== Sys2Proof/Laws/Run.lean ====
section
/-! SUPPORT. Run is the `while` loop of R455 (log 10), and what MixSegment can change. -/

namespace Sys2Proof.Machine

variable {s t : State} {i0 seg : Nat}

/-- What MixSegment leaves unchanged: everything but the voices, the filter and the accumulator. -/
theorem mixSegment_frame (i0 seg : Nat) (s : State) :
    let t := (mixSegment i0 seg s).1
    t.cfg = s.cfg ∧ t.lastProduced = s.lastProduced ∧ t.drainPos = s.drainPos ∧ t.arena = s.arena ∧
      t.isSealed = s.isSealed ∧ t.clk = s.clk ∧ t.snk = s.snk ∧ t.rc = s.rc ∧ t.flr = s.flr ∧ t.port = s.port ∧
      t.freeCtr = s.freeCtr ∧ t.flt.ledActive = s.flt.ledActive ∧ t.flt.ledForced = s.flt.ledForced := by
  have hl : ∀ (c : Config) (f : Filter) (as : List Frame),
      (filterFrames c f as).1.ledActive = f.ledActive ∧ (filterFrames c f as).1.ledForced = f.ledForced := by
    intro c f as
    induction as generalizing f with
    | nil => exact ⟨rfl, rfl⟩
    | cons a as ih => exact ih (filterSample c f a).1
  unfold mixSegment
  split
  · unfold mixSegmentFp
    simp only
    split
    · simp
    · exact ⟨rfl, rfl, rfl, rfl, rfl, rfl, rfl, rfl, rfl, rfl, rfl, hl _ _ _⟩
  · simp [mixSegmentVr]

/-- After a whole segment either the target is reached or the tick's samples are used up. -/
theorem segment_ends_loop (s : State) :
    s.rc.rTarget ≤ s.rc.rProduced + s.segLength ∨ s.clk.samplesRemainingInTick - s.segLength = 0 := by
  unfold State.segLength
  omega

/-- Run satisfies the equation of the `while` loop of R455. -/
theorem run_loop (s : State) :
    run s =
      if s.rc.rProduced < s.rc.rTarget then
        if s.clk.samplesRemainingInTick = 0 then
          if s.clk.state = .completed then .next (endPass { s with rc := { s.rc with rTarget := s.rc.rProduced } })
          else .next (tickEntry s)
        else
          match mixSegment s.rc.rProduced s.segLength s with
          | (t, some e) => stopMixing e t
          | (t, none) => run (t.countSegment s.segLength)
      else .next (endPass s) := by
  have ht : ∀ t : State, (t.rc.rTarget ≤ t.rc.rProduced ∨ t.clk.samplesRemainingInTick = 0) →
      run t = .next (afterSegment t) := by
    intro t h
    unfold run
    rw [if_neg (by omega)]
  by_cases h1 : s.rc.rProduced < s.rc.rTarget
  · by_cases h2 : s.clk.samplesRemainingInTick = 0
    · rw [ht s (.inr h2), if_pos h1, if_pos h2]
      unfold afterSegment atBoundary
      rw [if_pos h1]
      split <;> rfl
    · conv_lhs => unfold run
      rw [if_pos ⟨h1, h2⟩, if_pos h1, if_neg h2]
      simp only
      have hf := mixSegment_frame s.rc.rProduced s.segLength s
      revert hf
      generalize mixSegment s.rc.rProduced s.segLength s = m
      obtain ⟨t, e⟩ := m
      intro hf
      cases e with
      | some e => rfl
      | none =>
        simp only
        rw [ht]
        obtain ⟨-, -, -, -, -, hc, -, hr, -⟩ := hf
        simp only at hc hr
        simpa [hc, hr] using segment_ends_loop s
  · rw [ht s (.inl (by omega)), if_neg h1]
    unfold afterSegment
    rw [if_neg h1]

/-- Everything Run can answer: the state after the loop without mixing, the state after one whole segment, or the end of a mixing that
stopped. -/
theorem run_cases (s : State) :
    ((s.rc.rTarget ≤ s.rc.rProduced ∨ s.clk.samplesRemainingInTick = 0) ∧ run s = .next (afterSegment s)) ∨
      (s.rc.rProduced < s.rc.rTarget ∧ s.clk.samplesRemainingInTick ≠ 0 ∧
        ((∃ t, mixSegment s.rc.rProduced s.segLength s = (t, none) ∧
            run s = .next (afterSegment (t.countSegment s.segLength))) ∨
          ∃ t e, mixSegment s.rc.rProduced s.segLength s = (t, some e) ∧ run s = stopMixing e t)) := by
  by_cases h : s.rc.rProduced < s.rc.rTarget ∧ s.clk.samplesRemainingInTick ≠ 0
  · right
    refine ⟨h.1, h.2, ?_⟩
    unfold run
    rw [if_pos h]
    cases hm : mixSegment s.rc.rProduced s.segLength s with
    | mk t e =>
      cases e with
      | none => exact .inl ⟨t, rfl, by simp only [hm]⟩
      | some e => exact .inr ⟨t, e, rfl, by simp only [hm]⟩
  · left
    refine ⟨by omega, ?_⟩
    unfold run
    rw [if_neg h]

end Sys2Proof.Machine
end

