-- ==== Sys2Proof/Laws/Voices.lean ====
section
/-! SUPPORT. What the per-sample operations of the two engines keep, one lemma per operation, so that no proof about a sample unfolds them
(R211, R212, R325, R326, R328, R329). -/

namespace Sys2Proof.Machine

/-! ### The fixed-period engine -/

/-- What a fetch and the timer never change: what the host wrote beside the cursor, and the held values (R212). -/
abbrev FpVoice.SameSettings (v w : FpVoice) : Prop :=
  w.mute = v.mute ∧ w.period = v.period ∧ w.volume = v.volume ∧ w.pan = v.pan ∧ w.loopPointer = v.loopPointer ∧
    w.loopLength = v.loopLength ∧ w.heldL = v.heldL ∧ w.heldR = v.heldR

theorem FpVoice.SameSettings.trans {u v w : FpVoice} (h : u.SameSettings v) (k : v.SameSettings w) : u.SameSettings w := by
  simp_all only [FpVoice.SameSettings, and_self]

theorem fpFetchByte_keeps (m : Memory) (v : FpVoice) : v.SameSettings (fpFetchByte m v).1 := by
  unfold fpFetchByte
  split
  · simp [FpVoice.SameSettings]
  · dsimp only
    split <;> simp [FpVoice.reload, FpVoice.SameSettings]

theorem fpFetch_keeps (m : Memory) (v : FpVoice) : v.SameSettings (fpFetch m v).1 := by
  have hr : v.SameSettings v.reload := by simp [FpVoice.reload, FpVoice.SameSettings]
  unfold fpFetch
  split
  · split
    · simp [FpVoice.reload, FpVoice.SameSettings]
    · exact hr.trans (fpFetchByte_keeps m v.reload)
  · exact fpFetchByte_keeps m v

theorem fpFetchLoop_keeps (m : Memory) (step : NUM) (n : Nat) (v : FpVoice) :
    v.SameSettings (fpFetchLoop m step n v).1 := by
  induction n generalizing v with
  | zero =>
    unfold fpFetchLoop
    split <;> simp [FpVoice.SameSettings]
  | succ n ih =>
    have hf := fpFetch_keeps m v
    unfold fpFetchLoop
    split
    · dsimp only
      cases h : fpFetch m v with
      | mk w e =>
        rw [h] at hf
        cases e with
        | some e => exact hf
        | none =>
          refine hf.trans (FpVoice.SameSettings.trans ?_ (ih _))
          split <;> simp [FpVoice.SameSettings]
    · simp [FpVoice.SameSettings]

theorem fpTime_keeps (c : Config) (m : Memory) (v : FpVoice) : v.SameSettings (fpTime c m v).1 := by
  unfold fpTime
  split
  · simp [FpVoice.SameSettings]
  · exact fpFetchLoop_keeps m _ _ { v with fractionalTimer := NUM.fsub v.fractionalTimer NUM.one }

/-! ### The variable-rate engine -/

/-- A slew step leaves a voice as it is but for the two slews (R328). -/
theorem slewVolume_keeps (v : VrVoice) :
    slewVolume v = { v with volCounter := (slewVolume v).volCounter, curVol := (slewVolume v).curVol } := by
  unfold slewVolume
  split <;> rfl

theorem slewPanning_keeps (v : VrVoice) :
    slewPanning v = { v with panCounter := (slewPanning v).panCounter, curPan := (slewPanning v).curPan } := by
  unfold slewPanning
  split <;> rfl

section
variable (v : VrVoice)

@[simp] theorem slewStep_live : (slewStep v).live = v.live := by rw [slewStep, slewPanning_keeps, slewVolume_keeps]
@[simp] theorem slewStep_old : (slewStep v).old = v.old := by rw [slewStep, slewPanning_keeps, slewVolume_keeps]
@[simp] theorem slewStep_oldActive : (slewStep v).oldActive = v.oldActive := by rw [slewStep, slewPanning_keeps, slewVolume_keeps]
@[simp] theorem slewStep_enabled : (slewStep v).enabled = v.enabled := by rw [slewStep, slewPanning_keeps, slewVolume_keeps]
@[simp] theorem slewStep_mute : (slewStep v).mute = v.mute := by rw [slewStep, slewPanning_keeps, slewVolume_keeps]
@[simp] theorem slewStep_volume : (slewStep v).volume = v.volume := by rw [slewStep, slewPanning_keeps, slewVolume_keeps]
@[simp] theorem slewStep_panning : (slewStep v).panning = v.panning := by rw [slewStep, slewPanning_keeps, slewVolume_keeps]
@[simp] theorem slewStep_mixCounter : (slewStep v).mixCounter = v.mixCounter := by rw [slewStep, slewPanning_keeps, slewVolume_keeps]
@[simp] theorem slewStep_oldGainL : (slewStep v).oldGainL = v.oldGainL := by rw [slewStep, slewPanning_keeps, slewVolume_keeps]
@[simp] theorem slewStep_oldGainR : (slewStep v).oldGainR = v.oldGainR := by rw [slewStep, slewPanning_keeps, slewVolume_keeps]
@[simp] theorem slewStep_heldL : (slewStep v).heldL = v.heldL := by rw [slewStep, slewPanning_keeps, slewVolume_keeps]
@[simp] theorem slewStep_heldR : (slewStep v).heldR = v.heldR := by rw [slewStep, slewPanning_keeps, slewVolume_keeps]

end

/-- Advance changes the position and the fraction of a stream, nothing else (R325, R326). -/
theorem advance_keeps (c : Config) (t : Stream) :
    advance c t = { t with pointer := (advance c t).pointer, fraction := (advance c t).fraction } := by
  unfold advance advanceFast advanceAccurate
  cases c.quality
  · dsimp only
    split <;> rfl
  · rfl

/-- The end of a sample moves the live stream and may disable the voice, nothing else (R329). -/
theorem liveStep_keeps (c : Config) (v : VrVoice) :
    liveStep c v = { v with live := (liveStep c v).live, enabled := (liveStep c v).enabled } := rfl

/-- An enable of a silent voice clears a crossfade left by a stop and resolves the live stream (R300, R317, log 20). -/
theorem vrSetEnabled_silent (v : VrVoice) (h : v.enabled = false) :
    vrSetEnabled true v =
      { v with live := (resolve v.live).1, enabled := !(resolve v.live).2, mixCounter := 0, oldActive := false } := by
  simp [vrSetEnabled, VrVoice.resolveLive, h]

end Sys2Proof.Machine
end

