-- ==== Sys2Proof/Tests/Slice0.lean ====
section
/-! SUPPORT. Tests: words written out from the spec's encoding, ill-formed terms, one-step vectors of 95_test_vectors.md, and for every
statement with hypotheses a state and operands that meet them. -/

namespace Sys2Proof.Tests

open Sys2Proof Sys2Proof.Machine

/-- The next state of an answer. -/
def got (a : Answer) : Option State :=
  match a with
  | .next t => some t
  | _ => none

/-- The last result returned. -/
def last (a : Answer) : Option Result := (got a).bind (·.port.results.getLast?)

/-! ### Decoding: one word per command, from R140, R146 and R147 -/

theorem test_decode_reset : decode .fp 0x01000000#32 0xDEADBEEF#32 = .ok (.reset 0xDEADBEEF#32) := by decide
theorem test_decode_init : decode .fp 0x02000000#32 0x00000000#32 = .ok (.init 0x00000000#32) := by decide
theorem test_decode_render : decode .fp 0x03000000#32 0x0000000C#32 = .ok (.render 0x0000000C#32) := by decide
theorem test_decode_tickdone : decode .fp 0x04000000#32 0x00000001#32 = .ok (.tickdone 0x00000001#32) := by decide
theorem test_decode_drain : decode .fp 0x05000000#32 0x0000000C#32 = .ok (.drain 0x0000000C#32) := by decide
theorem test_decode_setsink : decode .fp 0x06000000#32 0x00000040#32 = .ok (.setsink 0x00000040#32) := by decide
theorem test_decode_store : decode .fp 0x07000000#32 0x00000002#32 = .ok (.store 0x00000002#32) := by decide
theorem test_decode_settempo : decode .fp 0x08000000#32 0x00000096#32 = .ok (.settempo 0x00000096#32) := by decide
theorem test_decode_setspeed : decode .fp 0x09000000#32 0x00000003#32 = .ok (.setspeed 0x00000003#32) := by decide
theorem test_decode_setloop : decode .fp 0x0A000000#32 0x00000001#32 = .ok (.setloop 0x00000001#32) := by decide
theorem test_decode_setled : decode .fp 0x0B000000#32 0x00000002#32 = .ok (.setled 0x00000002#32) := by decide
theorem test_decode_status : decode .fp 0x0C000000#32 0x00000000#32 = .ok (.status 0x00000000#32) := by decide
theorem test_decode_read : decode .fp 0x0D000000#32 0x0000000A#32 = .ok (.read 0x0000000A#32) := by decide
theorem test_decode_fpEnable : decode .fp 0x10010000#32 0x3F000000#32 = .ok (.fpEnable 0x01#8 0x3F000000#32) := by decide
theorem test_decode_fpPeriod : decode .fp 0x11260000#32 0x3F000001#32 = .ok (.fpPeriod 0x26#8 0x3F000001#32) := by decide
theorem test_decode_fpVolume : decode .fp 0x124B0000#32 0x3F000002#32 = .ok (.fpVolume 0x4B#8 0x3F000002#32) := by decide
theorem test_decode_fpPointer : decode .fp 0x13700000#32 0x3F000003#32 = .ok (.fpPointer 0x70#8 0x3F000003#32) := by decide
theorem test_decode_fpLength : decode .fp 0x14950000#32 0x3F000004#32 = .ok (.fpLength 0x95#8 0x3F000004#32) := by decide
theorem test_decode_fpLoopPointer : decode .fp 0x15BA0000#32 0x3F000005#32 = .ok (.fpLoopPointer 0xBA#8 0x3F000005#32) := by decide
theorem test_decode_fpLoopLength : decode .fp 0x16DF0000#32 0x3F000006#32 = .ok (.fpLoopLength 0xDF#8 0x3F000006#32) := by decide
theorem test_decode_fpMute : decode .fp 0x17040000#32 0x3F000007#32 = .ok (.fpMute 0x04#8 0x3F000007#32) := by decide
theorem test_decode_fpPanning : decode .fp 0x18290000#32 0x3F000008#32 = .ok (.fpPanning 0x29#8 0x3F000008#32) := by decide
theorem test_decode_vrEnable : decode .vr 0x20010000#32 0x3F000000#32 = .ok (.vrEnable 0x01#8 0x3F000000#32) := by decide
theorem test_decode_vrSpeed : decode .vr 0x21260000#32 0x3F000001#32 = .ok (.vrSpeed 0x26#8 0x3F000001#32) := by decide
theorem test_decode_vrDirection : decode .vr 0x224B0000#32 0x3F000002#32 = .ok (.vrDirection 0x4B#8 0x3F000002#32) := by decide
theorem test_decode_vrFraction : decode .vr 0x23700000#32 0x3F000003#32 = .ok (.vrFraction 0x70#8 0x3F000003#32) := by decide
theorem test_decode_vrVolume : decode .vr 0x24950000#32 0x3F000004#32 = .ok (.vrVolume 0x95#8 0x3F000004#32) := by decide
theorem test_decode_vrPanning : decode .vr 0x25BA0000#32 0x3F000005#32 = .ok (.vrPanning 0xBA#8 0x3F000005#32) := by decide
theorem test_decode_vrPointer : decode .vr 0x26DF0000#32 0x3F000006#32 = .ok (.vrPointer 0xDF#8 0x3F000006#32) := by decide
theorem test_decode_vrLength : decode .vr 0x27040000#32 0x3F000007#32 = .ok (.vrLength 0x04#8 0x3F000007#32) := by decide
theorem test_decode_vrLoopStart : decode .vr 0x28290000#32 0x3F000008#32 = .ok (.vrLoopStart 0x29#8 0x3F000008#32) := by decide
theorem test_decode_vrLoopLength : decode .vr 0x294E0000#32 0x3F000009#32 = .ok (.vrLoopLength 0x4E#8 0x3F000009#32) := by decide
theorem test_decode_vrLoopMode : decode .vr 0x2A730000#32 0x3F00000A#32 = .ok (.vrLoopMode 0x73#8 0x3F00000A#32) := by decide
theorem test_decode_vrMute : decode .vr 0x2B980000#32 0x3F00000B#32 = .ok (.vrMute 0x98#8 0x3F00000B#32) := by decide
theorem test_decode_vrNextBase : decode .vr 0x30010000#32 0x3F000000#32 = .ok (.vrNextBase 0x01#8 0x3F000000#32) := by decide
theorem test_decode_vrNextLength : decode .vr 0x31260000#32 0x3F000001#32 = .ok (.vrNextLength 0x26#8 0x3F000001#32) := by decide
theorem test_decode_vrNextLoopStart : decode .vr 0x324B0000#32 0x3F000002#32 = .ok (.vrNextLoopStart 0x4B#8 0x3F000002#32) := by decide
theorem test_decode_vrNextLoopLength : decode .vr 0x33700000#32 0x3F000003#32 = .ok (.vrNextLoopLength 0x70#8 0x3F000003#32) := by decide
theorem test_decode_vrNextLoopMode : decode .vr 0x34950000#32 0x3F000004#32 = .ok (.vrNextLoopMode 0x95#8 0x3F000004#32) := by decide
theorem test_decode_vrTrigger : decode .vr 0x35BA0000#32 0x3F000005#32 = .ok (.vrTrigger 0xBA#8 0x3F000005#32) := by decide

/-- The table words of `decodeTableWord` and the serialised bytes of R106. -/
theorem test_tableWord : decodeTableWord 32 0x11020000 = some (.fpPeriod 2#8 0#32) := by decide
theorem test_bytes : encodeBytes (.fpPeriod 2#8 428#32) = [0x00, 0x00, 0x02, 0x11, 0xAC, 0x01, 0x00, 0x00] := by decide

/-! ### States -/

/-- A fixed-period instance, PAL, with 64 frames, and a variable-rate one, ACCURATE or FAST, with two voices. -/
def cfgF : Config := Config.sample
def cfgV (q : Quality) : Config := { Config.sample with backend := .vr, quality := q }

/-- The voice of FP-1, written and not yet enabled. -/
def tone : FpVoice := { FpVoice.initial with period := 428, volume := 64, length := 2, loopLength := 2 }

/-- An FP instance after INIT with the arena `7F 80`, voice 0 just enabled and `n` samples left in the tick. -/
def fpS (n : Nat) : State :=
  let s := (State.powerOn cfgF).initRegisters
  { s with
    arena := cellsFrom 0 [0x7F, 0x80]
    fp := [fpSetEnabled true tone, FpVoice.initial, FpVoice.initial, FpVoice.initial]
    clk := { s.clk with samplesRemainingInTick := n } }

/-- A forward stream and the ping-pong stream of R334 over the arena `00 10 20 30 40 50 60 70`. -/
def ping : Stream :=
  { Stream.initial with length := 8, loopStart := 4, loopLength := 4, loopMode := .pingpong, speed := 0x3F800000#32 }

/-- The voice that plays it at full volume. -/
def voice : VrVoice := { VrVoice.initial with enabled := true, volume := 64, curVol := NUM.c64, live := ping }

/-- A VR instance after INIT with that arena, voice 0 sounding, voice 1 silent, and `n` samples left in the tick. -/
def vrS (q : Quality) (n : Nat) : State :=
  let s := (State.powerOn (cfgV q)).initRegisters
  { s with
    arena := cellsFrom 0 [0x00, 0x10, 0x20, 0x30, 0x40, 0x50, 0x60, 0x70]
    vr := [voice, VrVoice.initial]
    clk := { s.clk with samplesRemainingInTick := n } }

/-- The same instances suspended at a tick of a pass of 12 frames. -/
def pending (s : State) : State :=
  { s.startPass 12 with clk := { s.clk with tickPending := true, samplesRemainingInTick := 0 } }

/-- An instance with a finished pass of 2 frames, 0.5 and −1.0, and room for `n` bytes. -/
def done (n : Nat) : State :=
  { fpS 0 with
    acc := ⟨0x3F000000#32, 0xBF800000#32⟩ :: ⟨0x3F800001#32, 0xBF800001#32⟩ :: List.replicate 62 Frame.zero
    lastProduced := 2
    rc := ⟨false, 2, 2, 2⟩
    isSealed := true
    snk := ⟨n, 0, false⟩ }

/-- The same with a NaN in its second frame. -/
def doneNaN : State :=
  { done 8 with acc := ⟨0x3F000000#32, 0xBF800000#32⟩ :: ⟨0x7FC00001#32, 0#32⟩ :: List.replicate 62 Frame.zero }

/-- A faulted instance. -/
def faulted : State := { fpS 0 with flr := ⟨true, .arenaRange, 5⟩ }

/-- An instance with commands to take. -/
def withCmd (s : State) (cmd data : Word) : State := { s with port := { s.port with inbox := [⟨cmd, data, [], 0⟩] } }

/-! ### WellFormed: one ill-formed term per check, and well-formed ones -/

theorem test_wellFormed_backend : Instr.wellFormed cfgF (.vrEnable 0#8 1#32) = false := by decide
theorem test_wellFormed_voice :
    Instr.wellFormed cfgF (.fpEnable 4#8 1#32) = false ∧ Instr.wellFormed (cfgV .fast) (.vrEnable 2#8 1#32) = false := by decide
theorem test_wellFormed_operand :
    Instr.wellFormed cfgF (.fpEnable 0#8 2#32) = false ∧ Instr.wellFormed cfgF (.fpPanning 0#8 0x7FC00000#32) = false ∧
      Instr.wellFormed cfgF (.settempo 0#32) = false ∧ Instr.wellFormed cfgF (.setled 4#32) = false ∧
      Instr.wellFormed cfgF (.init 1#32) = false ∧ Instr.wellFormed (cfgV .fast) (.vrDirection 0#8 2#32) = false ∧
      Instr.wellFormed (cfgV .fast) (.vrSpeed 0#8 0x47800000#32) = false := by decide +kernel
theorem test_wellFormed_good :
    Instr.wellFormed cfgF (.fpEnable 3#8 1#32) = true ∧ Instr.wellFormed (cfgV .fast) (.vrSpeed 1#8 0x80000000#32) = true := by
  decide +kernel

/-! ### Numbers (R8, R59, R507; the values of R219 and R327) -/

theorem test_num :
    fpStep cfgF 428 = 0x40AA49B9#32 ∧ cfgF.filtB1 = 0x3F039581#32 ∧ cfgF.filtB2 = 0x3D8D4FE0#32 ∧
      cfgF.filtB3 = 0x3EF53F7C#32 ∧ gains (cfgV .fast) voice = (0x3EFEFEFF#32, 0x3F008081#32) := by decide +kernel
theorem test_convert :
    ([0x3F800000#32, 0x3F7FFFFF#32, 0x3F800001#32, 0x3F000000#32, 0xBF000000#32, 0x3E800000#32, 0x3EAAAAAB#32, 0x3727C5AC#32,
      0x80000000#32, 0xBF800000#32, 0xBF800001#32, 0x7F800000#32, 0xFF800000#32].map (convert cfgF)) =
      [32767, 32767, 32767, 16384, -16384, 8192, 10922, 0, 0, -32767, -32768, 32767, -32768] := by decide +kernel

/-! ### One step per command -/

/-- RESET out of the fault state (R700), with any DATA (E-15). -/
theorem test_reset :
    (got (exec (.reset 0xDEADBEEF#32) faulted)).map (fun t => (t.statusWord, t.arena, t.port.results)) =
      some (0x00000000#32, [], [⟨.ok, 0⟩]) := by decide +kernel
/-- INIT on NTSC sets 735 samples per tick (R450). -/
theorem test_init :
    (got (exec (.init 0#32) (State.powerOn { cfgF with video := .ntsc }))).map (fun t => (t.clk.samplesPerTick, t.clk.state)) =
      some (735, .playing) := by decide +kernel
/-- RENDER just after INIT suspends before the first sample (R451). -/
theorem test_render :
    (got (exec (.render 12#32) (fpS 0))).map (fun t => (t.port.results, t.rc, t.clk.tickPending)) =
      some ([⟨.tick, 0⟩], ⟨true, 12, 12, 0⟩, true) := by decide +kernel
/-- Program 1, step 13: the filtered accumulator, the voice's timer and the tick's rest. -/
theorem test_tickdone :
    (got (exec (.tickdone 0#32) (pending (fpS 0)))).map
        (fun t => ((t.acc.take 12).map (·.l), t.fp[0]?.map (·.fractionalTimer), t.clk.samplesRemainingInTick, t.port.results)) =
      some ([0x00000000#32, 0x00000000#32, 0x3EE5DA4C#32, 0x3F35EDAD#32, 0x3F58EA28#32, 0x3F6AEF73#32, 0x3D57162C#32, 0xBEE8A710#32,
        0xBF382055#32, 0xBF5B0D22#32, 0xBF6D020C#32, 0xBD77AFCF#32], some 0x40BEDD2B#32, 870, [⟨.ok, 12⟩]) := by decide +kernel
/-- Program 2's pointers and contributions: 12 samples of the ping-pong stream (R334). -/
theorem test_render_vr :
    (got (exec (.render 12#32) (vrS .fast 12))).map
        (fun t => ((t.acc.take 3).map (·.l), t.vr[0]?.map (fun v => (v.live.pointer, v.live.direction)), t.port.results)) =
      some ([0x00000000#32, 0x3D7EFEFF#32, 0x3DFEFEFF#32], some (4, .ahead), [⟨.ok, 12⟩]) := by decide +kernel
/-- A truncated drain (R501) and its bytes (R507): 0.5 left, −1.0 right. -/
theorem test_drain :
    (got (exec (.drain 2#32) (done 7))).map (fun t => (t.port.pcm, t.snk, t.drainPos, t.port.results)) =
      some ([0x00, 0x40, 0x01, 0x80], ⟨3, 1, true⟩, 1, [⟨.ok, 1⟩]) := by decide +kernel
theorem test_setsink : (got (exec (.setsink 64#32) (fpS 0))).map (·.snk.sinkAvail) = some 64 := by decide
/-- The truncated STORE of R550's example. -/
theorem test_store :
    (got (exec (.store 10#32) { fpS 0 with port := ⟨[], [1, 2, 3, 4, 5], 3, [], []⟩ })).map (fun t => (t.arena, t.port.results)) =
      some ([(0, 0x7F), (1, 0x80), (2, 4), (3, 5)], [⟨.ok, 2⟩]) := by decide
theorem test_settempo :
    (got (exec (.settempo 150#32) (fpS 7))).map (fun t => (t.clk.samplesPerTick, t.clk.samplesRemainingInTick)) = some (735, 7) := by
  decide
theorem test_setspeed :
    (got (exec (.setspeed 3#32) (fpS 0))).map (·.clk.speed) = some 3 ∧ last (exec (.setspeed 256#32) (fpS 0)) = some ⟨.badValue, 0⟩ := by
  decide
theorem test_setloop : (got (exec (.setloop 1#32) (pending (fpS 0)))).map (·.clk.loopSong) = some true := by decide
theorem test_setled :
    (got (exec (.setled 2#32) (fpS 0))).map (fun t => (t.flt.ledActive, t.flt.ledForced)) = some (false, true) := by decide
theorem test_status :
    last (exec (.status 0#32) (State.powerOn (cfgV .accurate))) = some ⟨.ok, 0x00006000⟩ ∧
      last (exec (.status 0#32) { faulted with isSealed := true }) = some ⟨.ok, 0x00000119⟩ := by decide
theorem test_read :
    last (exec (.read 10#32) faulted) = some ⟨.ok, 5⟩ ∧ last (exec (.read 12#32) (fpS 0)) = some ⟨.badValue, 0⟩ := by decide

theorem test_fpEnable :
    (got (exec (.fpEnable 3#8 1#32) (fpS 0))).map (fun t => t.fp[3]?.map (fun v => (v.enabled, v.delay))) = some (some (true, 2)) := by
  decide
theorem test_fpPeriod :
    (got (exec (.fpPeriod 2#8 428#32) (fpS 0))).map (fun t => t.fp.map (·.period)) = some [428, 0, 428, 0] ∧
      (got (exec (.fpPeriod 0#8 0x00010000#32) (fpS 0))).map (fun t => t.fp.map (·.period)) = some [65535, 0, 0, 0] := by decide
theorem test_fpVolume :
    (got (exec (.fpVolume 0#8 0xFFFFFFFB#32) (fpS 0))).map (fun t => t.fp.map (·.volume)) = some [0, 0, 0, 0] ∧
      (got (exec (.fpVolume 0#8 200#32) (fpS 0))).map (fun t => t.fp.map (·.volume)) = some [64, 0, 0, 0] := by decide
theorem test_fpPointer : (got (exec (.fpPointer 0#8 0xFFFFFFFF#32) (fpS 0))).map (fun t => t.fp.map (·.pointer)) = some [0xFFFFFFFF, 0, 0, 0] := by
  decide
theorem test_fpLength : (got (exec (.fpLength 1#8 2#32) (fpS 0))).map (fun t => t.fp.map (·.length)) = some [2, 2, 0, 0] := by decide
theorem test_fpLoopPointer :
    (got (exec (.fpLoopPointer 1#8 9#32) (fpS 0))).map (fun t => t.fp.map (fun v => (v.loopPointer, v.pointer))) =
      some [(0, 0), (9, 0), (0, 0), (0, 0)] := by decide
theorem test_fpLoopLength : (got (exec (.fpLoopLength 1#8 9#32) (fpS 0))).map (fun t => t.fp.map (·.loopLength)) = some [2, 9, 0, 0] := by
  decide
theorem test_fpMute : (got (exec (.fpMute 2#8 1#32) (fpS 0))).map (fun t => t.fp.map (·.mute)) = some [false, false, true, false] := by
  decide
theorem test_fpPanning :
    (got (exec (.fpPanning 3#8 0x3F000000#32) (fpS 0))).map (fun t => t.fp.map (·.pan)) = some [0, 0, 0, 0x3F000000] ∧
      last (exec (.fpPanning 0#8 0x7FC00000#32) (fpS 0)) = some ⟨.badValue, 0⟩ := by decide

/-- VR-14: an enable keeps the position, and stops where the position is outside. -/
theorem test_vrEnable :
    (got (exec (.vrEnable 1#8 1#32) { vrS .fast 0 with vr := [voice, { VrVoice.initial with live := { ping with loopMode := .noLoop, pointer := 3 } }] })).map
        (fun t => t.vr.map (fun v => (v.enabled, v.live.pointer))) = some [(true, 0), (true, 3)] ∧
      (got (exec (.vrEnable 1#8 1#32) { vrS .fast 0 with vr := [voice, { VrVoice.initial with live := { ping with loopMode := .noLoop, pointer := 9 } }] })).map
        (fun t => t.vr.map (fun v => (v.enabled, v.live.pointer))) = some [(true, 0), (false, 9)] := by decide
/-- R317's last corner case: an enable clears the crossfade that a stop left. -/
theorem test_vrEnable_clears :
    (got (exec (.vrEnable 0#8 1#32) { vrS .accurate 0 with vr := [{ voice with enabled := false, mixCounter := 220, oldActive := true }] })).map
        (fun t => t.vr.map (fun v => (v.enabled, v.mixCounter, v.oldActive))) = some [(true, 0, false)] := by decide
theorem test_vrSpeed :
    (got (exec (.vrSpeed 1#8 0x3FC00000#32) (vrS .fast 0))).map (fun t => t.vr.map (·.live.speed)) = some [0x3F800000, 0x3FC00000] ∧
      last (exec (.vrSpeed 0#8 0xBF800000#32) (vrS .fast 0)) = some ⟨.badValue, 0⟩ := by decide +kernel
/-- VR-6, third row: pointer 2 with direction −1 reflects to 5. -/
theorem test_vrDirection :
    (got (exec (.vrDirection 0#8 0xFFFFFFFF#32) { vrS .fast 0 with vr := [{ voice with live := { ping with pointer := 2 } }] })).map
        (fun t => t.vr.map (fun v => (v.live.pointer, v.live.direction))) = some [(5, .ahead)] := by decide
theorem test_vrFraction :
    (got (exec (.vrFraction 0#8 0x3E800000#32) (vrS .fast 0))).map (fun t => t.vr.map (·.live.fraction)) = some [0x3E800000, 0] ∧
      last (exec (.vrFraction 0#8 0x3F800000#32) (vrS .fast 0)) = some ⟨.badValue, 0⟩ := by decide +kernel
/-- The example of R304 (a ramp of 16.0 over 4 samples) and its FAST form (VR-12). -/
theorem test_vrVolume :
    (got (exec (.vrVolume 0#8 64#32) { vrS .accurate 0 with vr := [{ voice with curVol := 0 }], clk := { (vrS .accurate 0).clk with samplesPerTick := 4 } })).map
        (fun t => t.vr.map (fun v => (v.volumeRamp, v.volCounter, v.curVol))) = some [(0x41800000, 4, 0)] ∧
      (got (exec (.vrVolume 0#8 64#32) { vrS .fast 0 with vr := [{ voice with curVol := 0 }] })).map
        (fun t => t.vr.map (fun v => (v.volCounter, v.curVol))) = some [(0, 0x42800000)] := by decide +kernel
/-- The example of R305: 31.75 per sample. -/
theorem test_vrPanning :
    (got (exec (.vrPanning 0#8 300#32) { vrS .accurate 0 with clk := { (vrS .accurate 0).clk with samplesPerTick := 4 } })).map
        (fun t => t.vr.map (fun v => (v.panning, v.panningRamp, v.panCounter))) = some [(255, 0x41FE0000, 4), (128, 0, 0)] := by
  decide +kernel
/-- VR-6, first row: a ping-pong position of 13 resolves to 5, direction +1. -/
theorem test_vrPointer :
    (got (exec (.vrPointer 0#8 13#32) (vrS .fast 0))).map (fun t => t.vr.map (fun v => (v.live.pointer, v.live.direction))) =
      some [(5, .ahead), (0, .ahead)] := by decide
theorem test_vrLength :
    (got (exec (.vrLength 0#8 3#32) { vrS .fast 0 with vr := [{ voice with live := { ping with loopMode := .noLoop, pointer := 3 } }] })).map
        (fun t => t.vr.map (fun v => (v.live.length, v.enabled))) = some [(3, false)] := by decide
theorem test_vrLoopStart :
    (got (exec (.vrLoopStart 0#8 6#32) (vrS .fast 0))).map (fun t => t.vr.map (fun v => (v.live.loopStart, v.live.pointer))) =
      some [(6, 0), (0, 0)] := by decide
theorem test_vrLoopLength :
    (got (exec (.vrLoopLength 0#8 0#32) { vrS .fast 0 with vr := [{ voice with live := { ping with pointer := 8 } }] })).map
        (fun t => t.vr.map (fun v => (v.live.loopLength, v.enabled))) = some [(0, false)] := by decide
theorem test_vrLoopMode :
    (got (exec (.vrLoopMode 0#8 1#32) (vrS .fast 0))).map (fun t => t.vr.map (·.live.loopMode)) = some [.forward, .noLoop] ∧
      last (exec (.vrLoopMode 0#8 3#32) (vrS .fast 0)) = some ⟨.badValue, 0⟩ := by decide
theorem test_vrMute : (got (exec (.vrMute 1#8 1#32) (vrS .fast 0))).map (fun t => t.vr.map (·.mute)) = some [false, true] := by decide
theorem test_vrNextBase : (got (exec (.vrNextBase 0#8 16#32) (vrS .fast 0))).map (fun t => t.vr.map (·.nextBase)) = some [16, 0] := by decide
theorem test_vrNextLength : (got (exec (.vrNextLength 0#8 16#32) (vrS .fast 0))).map (fun t => t.vr.map (·.nextLength)) = some [16, 0] := by
  decide
theorem test_vrNextLoopStart :
    (got (exec (.vrNextLoopStart 0#8 5#32) (vrS .fast 0))).map (fun t => t.vr.map (·.nextLoopStart)) = some [5, 0] := by decide
theorem test_vrNextLoopLength :
    (got (exec (.vrNextLoopLength 0#8 16#32) (vrS .fast 0))).map (fun t => t.vr.map (·.nextLoopLength)) = some [16, 0] := by decide
theorem test_vrNextLoopMode :
    (got (exec (.vrNextLoopMode 0#8 2#32) (vrS .fast 0))).map (fun t => t.vr.map (·.nextLoopMode)) = some [.pingpong, .noLoop] := by decide
/-- The example of R317: the gains at a retrigger, a crossfade of 220 samples, the speed kept. -/
theorem test_vrTrigger :
    (got (exec (.vrTrigger 0#8 0#32) { vrS .accurate 0 with vr := [{ voice with nextLength := 8 }] })).map
        (fun t => t.vr.map (fun v => (v.oldGainL, v.oldGainR, v.mixCounter, v.oldActive, v.live.speed))) =
      some [(0x3EFEFEFF, 0x3F008081, 220, true, 0x3F800000)] := by decide +kernel
/-- VR-6, last row: a NONE sample triggered at its end leaves the voice disabled; an FP trigger on a silent voice has no crossfade. -/
theorem test_vrTrigger_stop :
    (got (exec (.vrTrigger 1#8 8#32) { vrS .accurate 0 with vr := [voice, { VrVoice.initial with nextLength := 8 }] })).map
        (fun t => t.vr.map (fun v => (v.enabled, v.mixCounter, v.live.pointer))) = some [(true, 0, 0), (false, 0, 8)] := by decide +kernel

/-- The arena of 95_test_vectors.md 1.7: 16 bytes of value 0.5, then 16 of value −0.5. -/
def fadeArena : Memory := cellsFrom 0 (List.replicate 16 0x40 ++ List.replicate 16 0xC0)

/-- The voice of that section `220 − n` samples after its trigger. -/
def fading (n : Nat) : VrVoice :=
  let loop : Stream := { Stream.initial with length := 16, loopLength := 16, loopMode := .forward, speed := 0x3F800000#32 }
  { voice with
    live := { loop with base := 16 }, old := loop, oldActive := n != 0, mixCounter := n,
    oldGainL := 0x3EFEFEFF#32, oldGainR := 0x3F008081#32 }

/-- The table of that section, left and right, at k = 0, 1, 2, 109, 110, 218, 219, 220. -/
theorem test_crossfade :
    ([220, 219, 218, 111, 110, 2, 1, 0].map fun n => (vrVoiceSample (cfgV .accurate) fadeArena (fading n) Frame.zero).frames) =
      [⟨0x3E7CAD8D#32, 0x3E7EAAE4#32⟩, ⟨0x3E7A5C1B#32, 0x3E7C54C6#32⟩, ⟨0x3E780AA9#32, 0x3E79FEA8#32⟩, ⟨0x00000000#32, 0x00000000#32⟩,
        ⟨0xBB145C60#32, 0xBB158780#32⟩, ⟨0xBE7CAD8D#32, 0xBE7EAAE4#32⟩, ⟨0xBE7EFEFF#32, 0xBE808081#32⟩, ⟨0xBE7EFEFF#32, 0xBE808081#32⟩] := by decide +kernel

/-! ### The assembler (R149, R150) -/

theorem test_assemble :
    assemble "fp.volume v0, -5 ; clamps to 0".toList = .ok [⟨0x12000000#32, 0xFFFFFFFB#32, none⟩] ∧
      assemble "store 10, @t, 3".toList = .ok [⟨0x07000000#32, 10#32, some (['t'], 3)⟩] ∧
      assemble "store 2, @s, 0x1".toList = .ok [⟨0x07000000#32, 2#32, some (['s'], 1)⟩] ∧
      assemble ".illegal 0x0E000000, 0".toList = .ok [⟨0x0E000000#32, 0#32, none⟩] := by decide +kernel
/-- The six pairs of 95_test_vectors.md 2.1. -/
theorem test_assemble_play :
    assemble "fp.play v1, 0, 2, 0, 2".toList =
      .ok [⟨0x10010000#32, 0, none⟩, ⟨0x13010000#32, 0, none⟩, ⟨0x14010000#32, 2, none⟩, ⟨0x15010000#32, 0, none⟩,
        ⟨0x16010000#32, 2, none⟩, ⟨0x10010000#32, 1, none⟩] := by decide +kernel
theorem test_disassemble :
    disassemble .vr 0x21010000#32 0x3FC00000#32 = "vr.speed v1, 1.5".toList ∧
      disassemble .fp 0x12000000#32 0xFFFFFFFB#32 = "fp.volume v0, -5".toList ∧
      disassemble .fp 0x18030000#32 0x3C23D70A#32 = "fp.panning v3, 0.01".toList ∧
      disassemble .fp 0x0E000000#32 0x00000000#32 = ".illegal 0x0E000000, 0x00000000".toList := by decide +kernel

/-! ### Witnesses: for every statement with hypotheses, states and operands that meet them -/

/-! The voices of the sample states are in range and inside their arenas. -/

theorem voice_inRange : voice.InRange :=
  ⟨by decide +kernel, by decide +kernel, by decide +kernel, by decide +kernel, by decide +kernel, by decide +kernel⟩
theorem silent_inRange : VrVoice.initial.InRange :=
  ⟨by decide +kernel, by decide +kernel, by decide +kernel, by decide +kernel, by decide +kernel, by decide +kernel⟩
theorem vrS_inRange (q : Quality) (n : Nat) : (vrS q n).VrInRange := by
  intro _ v hv
  rcases List.mem_pair.1 hv with rfl | rfl
  · exact voice_inRange
  · exact silent_inRange
theorem vrS_inside (q : Quality) (n : Nat) : (vrS q n).RegionsInside := by
  refine ⟨fun v hv => absurd hv (by simp [vrS, State.powerOn, State.initRegisters, cfgV, fpBank]), fun v hv => ?_⟩
  rcases List.mem_pair.1 hv with rfl | rfl
  · exact ⟨fun _ => ⟨by decide +kernel, by decide +kernel, by decide +kernel, Nat.le_refl 8⟩, fun h => absurd h (by decide)⟩
  · exact ⟨fun h => absurd h (by decide), fun h => absurd h (by decide)⟩
theorem fpS_inRange (n : Nat) : (fpS n).VrInRange := fun _ _ hv => absurd hv (List.not_mem_nil)
theorem fpS_inside (n : Nat) : (fpS n).RegionsInside := by
  refine ⟨fun v hv => ?_, fun _ hv => absurd hv (List.not_mem_nil)⟩
  simp only [fpS, List.mem_cons, List.not_mem_nil, or_false] at hv
  rcases hv with rfl | rfl | rfl | rfl
  · exact fun _ => ⟨fun _ => Nat.le_refl 2, fun _ => Nat.le_refl 2⟩
  all_goals exact fun h => absurd h (by decide)

theorem test_witness_DecodeAndEncodeAgree :
    Instr.onBackend .fp (.fpPeriod 255#8 0#32) = true ∧ Instr.onBackend .vr (.vrTrigger 255#8 0#32) = true ∧
      decode .fp 0x0D000000#32 11#32 = .ok (.read 11#32) := by decide
theorem test_witness_DecoderChecksInOrder :
    (decode .fp 0x00000000#32 0 = .error .opcode ∧ decode .fp 0x0E000000#32 0 = .error .opcode ∧
      decode .vr 0x19000000#32 0 = .error .opcode ∧ decode .vr 0x2C000000#32 0 = .error .opcode ∧
      decode .vr 0x36000000#32 0 = .error .opcode ∧ decode .vr 0xFF000000#32 0 = .error .opcode) ∧
    (decode .fp 0x0100FFFF#32 0 = .error .reserved ∧ decode .fp 0x0D010000#32 0 = .error .voiceOnControl ∧
      decode .vr 0x18000000#32 0 = .error .otherBackend ∧ decode .fp 0x2B000000#32 0 = .error .otherBackend ∧
      decode .fp 0x30000000#32 0 = .error .otherBackend) ∧
    decode cfgF.backend 0x10040000#32 1 = .ok (.fpEnable 4#8 1#32) ∧ Instr.voice? (.fpEnable 4#8 1#32) = some 4#8 ∧
      cfgF.voiceCount ≤ (4#8).toNat ∧ (fpS 0).flr.fault = false := by decide
theorem test_witness_AssemblerReadsDisassembly : decode .vr 0x21FF0000#32 0x3EAAAAAB#32 = .ok (.vrSpeed 255#8 0x3EAAAAAB#32) := by decide
theorem test_witness_StepRunsDecodedCommand :
    (withCmd (fpS 0) 0x11020000#32 428#32).port.inbox = [⟨0x11020000#32, 428#32, [], 0⟩] ∧
      decode (fpS 0).cfg.backend 0x11020000#32 428#32 = .ok (.fpPeriod 2#8 428#32) ∧
      decode (fpS 0).cfg.backend 0x11020001#32 428#32 = .error .reserved ∧ (fpS 0).port.inbox = [] := by decide
theorem test_witness_ErrorStatusChangesNothing :
    (got (step (withCmd (fpS 0) 0x10040000#32 1#32))).map (·.port.results) = some [⟨.badVoice, 0⟩] ∧
      (got (step (withCmd faulted 0x10000000#32 1#32))).map (·.port.results) = some [⟨.faulted, 0⟩] ∧ faulted.flr.fault = true := by
  decide
theorem test_witness_EveryCommandAnswersOnce :
    (withCmd (done 4) 0x05000000#32 2#32).port.inbox = [⟨0x05000000#32, 2#32, [], 0⟩] ∧
      (got (step (withCmd (done 4) 0x05000000#32 2#32))).isSome = true ∧
      (got (step (withCmd (done 4) 0x0C000000#32 0#32))).isSome = true := by decide +kernel
theorem test_witness_FaultStateIsSticky :
    faulted.flr.fault = true ∧ Instr.onBackend faulted.cfg.backend (.drain 0#32) = true ∧
      Instr.onBackend faulted.cfg.backend (.fpMute 0#8 0#32) = true ∧
      (Instr.operandLegal (.status 0#32) = true ∧ Instr.operandLegal (.status 1#32) = false ∧
        Instr.operandLegal (.read 11#32) = true ∧ Instr.operandLegal (.read 12#32) = false) := by decide
theorem test_witness_CompletedEnteredAndLeft :
    (got (exec (.tickdone 1#32) (pending (fpS 0)))).map (·.clk.state) = some .completed ∧ (pending (fpS 0)).clk.state = .playing ∧
    (got (exec (.init 0#32) { fpS 0 with clk := { (fpS 0).clk with state := .completed } })).map (·.clk.state) = some .playing ∧
    (got (exec (.setloop 0#32) { fpS 0 with clk := { (fpS 0).clk with loopSong := true } })).map (·.clk.loopSong) = some false := by
  decide +kernel
theorem test_witness_ArenaOnlyGrowsUntilReset :
    (got (exec (.store 1#32) { fpS 0 with port := ⟨[], [1], 0, [], []⟩ })).map (·.arena.length) = some 3 ∧ (fpS 0).arena.read 1 = some 0x80 ∧
      (got (exec (.drain 0#32) (done 0))).map (·.isSealed) = some true ∧ (done 0).isSealed = true := by decide +kernel
theorem test_witness_FaultsRaisedOnlyByMixingAndDrain :
    (got (exec (.drain 2#32) doneNaN)).map (·.flr) = some ⟨true, .numeric, 1⟩ ∧
      (got (exec (.render 3#32) { fpS 4 with arena := [] })).map (·.flr) = some ⟨true, .arenaRange, 0⟩ := by decide +kernel
theorem test_witness_TickEntryIsPrecise :
    (fpS 0).Inv ∧ (got (exec (.render 12#32) (fpS 0))).map (·.port.results) = some [⟨.tick, 0⟩] ∧ (pending (fpS 0)).Inv ∧
      (pending (fpS 0)).clk.tickPending = true :=
  ⟨by decide +kernel, by decide +kernel, by decide +kernel, by decide +kernel⟩
theorem test_witness_FlagsHaveOnlyTheirWriters :
    (got (exec (.render 1#32) (fpS 0))).map (fun t => (t.isSealed, t.clk.tickPending)) = some (true, true) ∧
      (got (exec (.tickdone 1#32) (pending (fpS 0)))).map (fun t => (t.clk.state, t.clk.tickPending)) = some (.completed, false) ∧
      (got (exec (.setloop 1#32) (fpS 0))).map (·.clk.loopSong) = some true ∧
      (got (exec (.setled 3#32) (fpS 0))).map (·.flt.ledActive) = some true ∧
      (got (exec (.drain 2#32) (done 4))).map (·.snk.sinkFull) = some true ∧
      (got (exec (.drain 2#32) doneNaN)).map (·.flr.fault) = some true := by decide +kernel
theorem test_witness_VoiceCommandChecks :
    Instr.voice? (.fpMute 3#8 2#32) = some 3#8 ∧ Instr.onBackend (vrS .fast 0).cfg.backend (.fpMute 3#8 2#32) = false ∧
      Instr.onBackend (fpS 0).cfg.backend (.fpMute 3#8 2#32) = true ∧ faulted.flr.fault = true ∧ (fpS 0).flr.fault = false ∧
      (fpS 0).cfg.voiceCount ≤ (4#8).toNat ∧ (3#8).toNat < (fpS 0).cfg.voiceCount ∧
      Instr.operandLegal (.fpMute 3#8 2#32) = false ∧ Instr.operandLegal (.fpMute 3#8 1#32) = true := by decide
theorem test_witness_ControlCommandChecks :
    ((pending (fpS 0)).flr.fault = false ∧ (pending (fpS 0)).clk.tickPending = true ∧ (fpS 0).clk.tickPending = false) ∧
      (Instr.voice? (.init 1#32) = none ∧ Instr.operandLegal (.init 1#32) = false ∧ Instr.operandLegal (.tickdone 2#32) = false ∧
        Instr.operandLegal (.status 1#32) = false ∧ Instr.operandLegal (.read 12#32) = false) ∧
      ((done 0).lastProduced - (done 0).drainPos < (3#32).toNat ∧ (done 0).isSealed = true) ∧
      ((fpS 0).isSealed = false ∧ (fpS 0).cfg.arenaCap < (fpS 0).arenaLen + min (63#32).toNat ((List.replicate 63 (0 : Byte)).length - 0)) := by
  decide
theorem test_witness_RenderChecksInOrder :
    (pending (fpS 0)).clk.tickPending = true ∧ (State.powerOn cfgF).clk.state = .idle ∧ (fpS 0).clk.state ≠ .idle ∧
      (fpS 0).cfg.chunkN < (65#32).toNat ∧ (64#32).toNat ≤ (fpS 0).cfg.chunkN ∧ 0 < (done 0).lastProduced - (done 0).drainPos := by decide
theorem test_witness_PowerOnMeetsInvariants : cfgF.valid = true ∧ (cfgV .fast).valid = true := by decide
theorem test_witness_StepKeepsRegisterInvariant :
    (withCmd (pending (fpS 0)) 0x04000000#32 1#32).Inv ∧ (got (step (withCmd (pending (fpS 0)) 0x04000000#32 1#32))).isSome = true := by
  decide +kernel
theorem test_witness_StepKeepsAccumulatorClear :
    (withCmd (done 8) 0x05000000#32 1#32).Inv ∧ (withCmd (done 8) 0x05000000#32 1#32).AccClear ∧
      (got (step (withCmd (done 8) 0x05000000#32 1#32))).isSome = true :=
  ⟨by decide +kernel, by decide +kernel, by decide +kernel⟩
theorem test_witness_StepKeepsFixedPeriodVoices :
    (withCmd (fpS 4) 0x03000000#32 4#32).Inv ∧ (withCmd (fpS 4) 0x03000000#32 4#32).FpInRange ∧
      (got (step (withCmd (fpS 4) 0x03000000#32 4#32))).isSome = true :=
  ⟨by decide +kernel, by decide +kernel, by decide +kernel⟩
theorem test_witness_StepKeepsVariableRateVoices :
    (withCmd (vrS .accurate 4) 0x03000000#32 4#32).Inv ∧ (withCmd (vrS .accurate 4) 0x03000000#32 4#32).VrInRange ∧
      (got (step (withCmd (vrS .accurate 4) 0x03000000#32 4#32))).isSome = true :=
  ⟨by decide +kernel, vrS_inRange .accurate 4, by decide +kernel⟩
theorem test_witness_NoCommandStops : (fpS 4).Inv ∧ (fpS 4).FpInRange ∧ (vrS .fast 4).Inv ∧ (vrS .fast 4).FpInRange :=
  ⟨by decide +kernel, by decide +kernel, by decide +kernel, by decide +kernel⟩
/-- The counterexample of the statement expected to fail: SET_TEMPO 65535 with 882 samples left. -/
theorem test_witness_TickBudgetStaysWithinTick :
    (withCmd (fpS 882) 0x08000000#32 65535#32).Inv ∧
      (got (step (withCmd (fpS 882) 0x08000000#32 65535#32))).map (fun t => (t.clk.samplesRemainingInTick, t.clk.samplesPerTick)) =
        some (882, 1) := by decide +kernel
/-- The counterexample of the other: a silent voice below 0 that was given a loop. -/
theorem test_witness_PlayingPointerStaysNonNegative :
    let s := withCmd { vrS .fast 0 with vr := [{ voice with enabled := false, live := { ping with pointer := -5 } }, VrVoice.initial] }
      0x20000000#32 1#32
    s.Inv ∧ s.VrInRange ∧ (∀ v ∈ s.vr, v.enabled = true → 0 ≤ v.live.pointer) ∧
      (got (step s)).map (fun t => t.vr.map (fun v => (v.enabled, v.live.pointer))) = some [(true, -5), (false, 0)] :=
  by
  refine ⟨by decide +kernel, ?_, by decide +kernel, by decide +kernel⟩
  intro _ v hv
  rcases List.mem_pair.1 hv with rfl | rfl
  · exact ⟨by decide +kernel, by decide +kernel, by decide +kernel, by decide +kernel, by decide +kernel, by decide +kernel⟩
  · exact silent_inRange
theorem test_witness_FpVoiceWrites :
    FpReady (fpS 0) 0#8 (fpSetEnabled true tone) ∧ (fpSetEnabled true tone).enabled = true ∧
      FpReady (fpS 0) 3#8 FpVoice.initial ∧ FpVoice.initial.enabled = false ∧ (0x7F7FFFFF#32).extractLsb' 23 8 ≠ 0xFF#8 := by decide
theorem test_witness_VrPlainWrites :
    VrReady (vrS .fast 0) 0#8 voice ∧ voice.enabled = true ∧ VrReady (vrS .fast 0) 1#8 VrVoice.initial ∧
      (0x477FFFFF#32).toNat < 0x47800000 ∧ (0x3F7FFFFF#32).toNat < 0x3F800000 := by decide
theorem test_witness_VrMovingWrites :
    VrReady (vrS .fast 0) 0#8 voice ∧ voice.enabled = true ∧ VrReady (vrS .fast 0) 1#8 VrVoice.initial ∧
      VrVoice.initial.enabled = false := by decide
theorem test_witness_VrVolumeAndPanningWrites :
    (VrReady (vrS .accurate 0) 0#8 voice ∧ (vrS .accurate 0).cfg.quality = .accurate ∧ voice.enabled = true ∧ voice.mixCounter = 0) ∧
      (VrReady (vrS .fast 0) 0#8 voice ∧ (vrS .fast 0).cfg.quality ≠ .accurate) := by decide
theorem test_witness_VrTriggerResult :
    (VrReady (vrS .accurate 0) 0#8 voice ∧ (vrS .accurate 0).cfg.quality = .accurate ∧ voice.enabled = true) ∧
      (VrReady (vrS .accurate 0) 1#8 VrVoice.initial ∧ VrVoice.initial.enabled = false) := by decide
theorem test_witness_InitResult : (fpS 0).flr.fault = false ∧ (fpS 0).clk.tickPending = false := by decide
theorem test_witness_RenderResult :
    ((fpS 4).Inv ∧ (fpS 4).FpInRange ∧ (fpS 4).VrInRange ∧ (fpS 4).RegionsInside ∧ (fpS 4).flr.fault = false ∧
      (fpS 4).clk.tickPending = false ∧ (fpS 4).clk.state ≠ .idle ∧ (64#32).toNat ≤ (fpS 4).cfg.chunkN ∧
      (fpS 4).lastProduced - (fpS 4).drainPos = 0) ∧
    ((vrS .fast 4).Inv ∧ (vrS .fast 4).FpInRange ∧ (vrS .fast 4).VrInRange ∧ (vrS .fast 4).RegionsInside) :=
  ⟨⟨by decide +kernel, by decide +kernel, fpS_inRange _, fpS_inside _, by decide +kernel,
    by decide +kernel, by decide +kernel, by decide +kernel, by decide +kernel⟩,
    by decide +kernel, by decide +kernel, vrS_inRange _ _, vrS_inside _ _⟩
theorem test_witness_TickDoneResult :
    (pending (fpS 0)).Inv ∧ (pending (fpS 0)).FpInRange ∧ (pending (fpS 0)).VrInRange ∧ (pending (fpS 0)).RegionsInside ∧
      (pending (fpS 0)).clk.tickPending = true :=
  ⟨by decide +kernel, by decide +kernel, fpS_inRange 0, fpS_inside 0, by decide +kernel⟩
theorem test_witness_DrainResult :
    let s := done 7
    s.flr.fault = false ∧ s.clk.tickPending = false ∧ (2#32).toNat ≤ s.lastProduced - s.drainPos ∧
      ∀ f ∈ (s.acc.drop s.drainPos).take (min (2#32).toNat (s.snk.sinkAvail / 4)), NUM.isNaN f.l = false ∧ NUM.isNaN f.r = false := by
  decide +kernel
theorem test_witness_ControlRegisterWrites :
    (pending (fpS 0)).flr.fault = false ∧ 1 ≤ (65535#32).toNat ∧ (65535#32).toNat ≤ 65535 ∧ (255#32).toNat ≤ 255 ∧ (3#32).toNat < 4 := by
  decide
theorem test_witness_ReadSelectors : 11 < (12#32).toNat := by decide
theorem test_witness_StoreResult :
    let s := { fpS 0 with port := ⟨[], [1, 2, 3, 4, 5], 3, [], []⟩ }
    s.arena.wf = true ∧ s.flr.fault = false ∧ s.clk.tickPending = false ∧ s.isSealed = false ∧
      s.arenaLen + min (10#32).toNat (s.port.src.length - s.port.pos) ≤ s.cfg.arenaCap := by decide
theorem test_witness_FaultEntry :
    (let s := { fpS 4 with arena := [] }
     s.flr.fault = false ∧ s.clk.tickPending = false ∧ s.clk.state ≠ .idle ∧ (3#32).toNat ≤ s.cfg.chunkN ∧
      s.lastProduced - s.drainPos = 0 ∧ (mixSegment 0 (min 4 3) (s.startPass 3)).2 = some (.arenaRange 0)) ∧
    (let s := pending { fpS 0 with arena := [] }
     s.Inv ∧ s.clk.tickPending = true ∧ s.clk.loopSong = false ∧
      min s.rc.rTarget (s.rc.rProduced + s.clk.samplesPerTick) = s.rc.rTarget ∧
      (mixSegment s.rc.rProduced (min s.clk.samplesPerTick (s.rc.rTarget - s.rc.rProduced)) s).2 = some (.arenaRange 0)) ∧
    (let s := doneNaN
     s.flr.fault = false ∧ s.clk.tickPending = false ∧ (2#32).toNat ≤ s.lastProduced - s.drainPos ∧
      1 < min (2#32).toNat (s.snk.sinkAvail / 4) ∧ s.acc[s.drainPos + 1]? = some ⟨0x7FC00001#32, 0#32⟩ ∧
      NUM.isNaN 0x7FC00001#32 = true ∧ NUM.isNaN 0x3F000000#32 = false ∧ NUM.isNaN 0xBF800000#32 = false) := by decide +kernel
theorem test_witness_PeriodGateSkipsVoice : { tone with period := 60 }.period ≤ 60 := by decide
theorem test_witness_FetchReadsAndReloads :
    FpVoice.initial.length = 0 ∧ FpVoice.initial.loopLength = 0 ∧ { tone with length := 0 }.loopLength ≠ 0 ∧ tone.length ≠ 0 ∧
      Memory.read [] tone.pointer = none ∧ (fpS 0).arena.read tone.pointer = some 0x7F := by decide
theorem test_witness_TriggerDelayIsTwoSamples :
    (tone.enabled = false ∧ 60 < tone.period ∧ tone.period ≤ 65535 ∧ tone.length ≠ 0 ∧ (fpS 0).arena.read tone.pointer = some 0x7F ∧
      0x40000000 ≤ (fpStep cfgF tone.period).toNat) ∧
    ((fpSetEnabled true tone).enabled = true ∧
      (fpTime cfgF (fpS 0).arena { fpSetEnabled true tone with delay := 0 }).1.enabled = true ∧
      (fpTime cfgF (fpS 0).arena { fpSetEnabled true tone with delay := 0, length := 0, loopLength := 0 }).1.enabled = false ∧
      (fpTime cfgF [] { fpSetEnabled true tone with delay := 0 }).2 = some (.arenaRange 0)) ∧
    (0 < (fpSetEnabled true tone).delay ∧ tone.delay = 0 ∧ (fpFetch (fpS 0).arena tone).2 = none ∧
      (fpFetch [] tone).2 = some (.arenaRange 0)) ∧
    (NUM.flt 0xBF800000#32 0x3F800000#32 = true ∧ NUM.flt 0x3F7FFFFF#32 0x3F800000#32 = true ∧ NUM.flt 0x3F800000#32 0x3F800000#32 = false) := by
  decide +kernel
theorem test_witness_MuteHoldsContribution :
    (let v := { fpSetEnabled true tone with delay := 0, mute := false }
     v.enabled = true ∧ 60 < v.period ∧ (fpVoiceSample cfgF (fpS 0).arena v Frame.zero).stop = none ∧
      (fpVoiceSample cfgF (fpS 0).arena v Frame.zero).voices.enabled = true) ∧
    (voice.enabled = true ∧ voice.mixCounter = 0 ∧ voice.mute = false ∧
      (streamValue (cfgV .accurate) (vrS .fast 0).arena voice.live).isOk = true ∧
      (vrVoiceSample (cfgV .accurate) (vrS .fast 0).arena { voice with mute := false } Frame.zero).stop = none) ∧
    (streamValue (cfgV .accurate) [] voice.live = .error (.arenaRange 0) ∧
      (streamValue (cfgV .accurate) (vrS .fast 0).arena (fading 220).live).isOk = false ∧
      (streamValue (cfgV .fast) (vrS .fast 0).arena { ping with base := 8 }) = .error (.arenaRange 8) ∧
      0 < (fading 220).mixCounter ∧ (fading 220).oldActive = true ∧
      streamValue (cfgV .accurate) fadeArena { (fading 220).old with base := 32 } = .error (.arenaRange 32)) ∧
    (0 ≤ ping.pointer ∧ partner ping = 1 ∧ Memory.read [] 0 = none ∧ Memory.read [(0, 5)] 0 = some 5 ∧ Memory.read [(0, 5)] 1 = none ∧
      Memory.read (vrS .fast 0).arena 1 = some 0x10) ∧
    (partner { ping with direction := .still, pointer := 7 } = 7 ∧ partner { ping with loopMode := .noLoop, pointer := 7 } = 7 ∧
      partner { ping with loopMode := .noLoop, pointer := 0, direction := .backward } = 0 ∧ partner { ping with pointer := 6 } = 7 ∧
      partner { ping with pointer := 7 } = 7 ∧ partner { ping with pointer := 7, loopMode := .forward } = 4 ∧
      partner { ping with pointer := 4, direction := .backward } = 4 ∧
      partner { ping with pointer := 4, direction := .backward, loopMode := .forward } = 7) := by decide +kernel
theorem test_witness_FpRegionsInsideNeverFault :
    (fpS 4).cfg.backend = .fp ∧ (fpS 4).Inv ∧ (fpS 4).flr.fault = false ∧ (fpS 4).FpInRange ∧ (fpS 4).RegionsInside :=
  ⟨by decide +kernel, by decide +kernel, by decide +kernel, by decide +kernel, fpS_inside _⟩
theorem test_witness_ResolveLandsInRange :
    (ping.loopMode = .pingpong ∧ (resolve { ping with pointer := 8 }).1.direction = .backward) ∧
    (Stream.looped { ping with loopMode := .noLoop } = false ∧ ping.looped = true ∧ { ping with loopMode := .forward }.looped = true) ∧
    ((resolve { ping with pointer := 8 }).1.pointer = 7 ∧ (resolve { ping with pointer := 7 }).1.pointer = 7 ∧
      (resolve { ping with pointer := 8, loopMode := .forward }).1.pointer = 4 ∧
      (resolve { ping with pointer := 3, loopMode := .forward, direction := .backward }).1.pointer = 7 ∧
      (resolve { ping with pointer := 4, loopMode := .forward, direction := .backward }).1.pointer = 4) := by decide
theorem test_witness_PingPongClosedForm :
    0 < ping.loopLength ∧ reflect ping 13 = (5, .ahead) ∧ mirrorLoop 4 8 3 (13, .ahead) = (5, .ahead) := by decide
theorem test_witness_AdvanceMovesInDirection :
    (ping.InRange ∧ (cfgV .fast).quality = .fast ∧ (cfgV .accurate).quality = .accurate) ∧
    (let t := { ping with speed := 0x477FFFFF#32, fraction := 0x3F7FFFFF#32 }
     t.InRange ∧ (advance (cfgV .fast) t).pointer = 65536 ∧ (advance (cfgV .accurate) t).pointer = 65536) ∧
    (advance (cfgV .fast) { ping with speed := 0x3FC00000#32 }).pointer = 1 := by decide +kernel
theorem test_witness_SlewLandsExactly :
    0 < { voice with volCounter := 4 }.volCounter ∧ 0 < { voice with panCounter := 1 }.panCounter ∧ VrVoice.initial.enabled = false ∧
      voice.enabled = true ∧ voice.mixCounter = 0 ∧ voice.mute = false ∧
      (vrVoiceSample (cfgV .accurate) (vrS .fast 0).arena voice Frame.zero).stop = none ∧
      streamValue (cfgV .accurate) (vrS .fast 0).arena voice.live = .ok 0#32 := by decide +kernel
theorem test_witness_CrossfadeRunsItsLength :
    voice.enabled = true ∧ (vrVoiceSample (cfgV .accurate) (vrS .fast 0).arena { voice with mixCounter := 1 } Frame.zero).stop = none ∧
      NUM.isNaN (gains (cfgV .accurate) (slewStep voice)).1 = false ∧ NUM.isFinite voice.oldGainL = true ∧
      (fading 220).enabled = true ∧ (fading 220).mixCounter = 219 + 1 ∧ (fading 1).mixCounter = 0 + 1 ∧
      (streamValue (cfgV .accurate) fadeArena (fading 220).live).isOk = true ∧
      (streamValue (cfgV .accurate) fadeArena (fading 220).old).isOk = true ∧ (fading 220).mute = false := by decide +kernel
theorem test_witness_VrRegionsInsideNeverFault :
    (vrS .accurate 4).cfg.backend = .vr ∧ (vrS .accurate 4).Inv ∧ (vrS .accurate 4).flr.fault = false ∧ (vrS .accurate 4).VrInRange ∧ (vrS .accurate 4).RegionsInside :=
  ⟨by decide +kernel, by decide +kernel, by decide +kernel, vrS_inRange _ _, vrS_inside _ _⟩
theorem test_witness_MixingNestsEitherWay :
    (fpS 0).cfg.backend = .fp ∧ (mixVoices (fpVoiceSample cfgF (fpS 0).arena) (fpS 0).fp (((fpS 0).acc.drop 0).take 3)).stop = none ∧
      ((mixVoices (fpVoiceSample cfgF (fpS 0).arena) (fpS 0).fp (((fpS 0).acc.drop 0).take 3)).frames[2]?).isSome = true ∧
      (vrS .fast 0).cfg.backend = .vr ∧
      (mixVoices (vrVoiceSample (cfgV .fast) (vrS .fast 0).arena) (vrS .fast 0).vr (((vrS .fast 0).acc.drop 60).take 5)).stop = none ∧
      (mixVoices (vrVoiceSample (cfgV .fast) (vrS .fast 0).arena) (vrS .fast 0).vr (((vrS .fast 0).acc.drop 60).take 5)).frames.length = 4 := by
  decide +kernel
theorem test_witness_SegmentsSplitAnywhere : 1 + 2 + 3 ≤ (fpS 0).acc.length ∧ (mixSegment 1 (2 + 3) (fpS 0)).2 = none := by decide +kernel
theorem test_witness_FilterStages :
    (fpS 0).flt.ledActive = false ∧ (fpS 0).flt.ledForced = false ∧
      (filterSample cfgF (fpS 0).flt ⟨0x3F800000#32, 0xBF800000#32⟩).2 = ⟨0x3EE7A9A0#32, 0xBEE7A9A0#32⟩ ∧
      (filterSample cfgF { (fpS 0).flt with ledForced := true } ⟨0x3F800000#32, 0xBF800000#32⟩).2 = ⟨0x3DFB87EB#32, 0xBDFB87EB#32⟩ := by
  decide +kernel
theorem test_witness_ConvertIsMonotoneAndOdd :
    NUM.isNaN 0x3F000000#32 = false ∧ NUM.val 0x3F000000#32 ≤ NUM.val 0x3F800000#32 ∧ (NUM.one149 : Int) < NUM.val 0x3F800001#32 ∧
      NUM.val 0xBF800001#32 < -(NUM.one149 : Int) ∧ -(NUM.one149 : Int) ≤ NUM.val 0xBF800000#32 ∧
      (let y := NUM.fmul 0x3F000000#32 0x46FFFE00#32
       2 * (convert cfgF 0x3F000000#32 * (NUM.one149 : Int) - NUM.val y).natAbs = NUM.one149 ∧ convert cfgF 0x3F000000#32 = 16384) := by
  decide +kernel
theorem test_witness_RoundingIsNearestEven :
    NUM.ofRat true ((2 ^ 24 + 1) * 2 ^ 149) 1 = 0xCB800000#32 ∧ NUM.isFinite (NUM.ofRat false (2 ^ 277) 1) = false := by decide +kernel
theorem test_witness_OperationsRoundOnce :
    NUM.isFinite 0x3F000000#32 = true ∧ NUM.val 0x3F800000#32 = NUM.val 0x3F000000#32 + NUM.val 0x3F000000#32 ∧
      NUM.val 0x3E800000#32 * (NUM.one149 : Int) = NUM.val 0x3F000000#32 * NUM.val 0x3F000000#32 ∧ NUM.val 0x3F000000#32 ≠ 0 := by
  decide +kernel
theorem test_witness_IntegersAndSamplesAreExact : (-(2 ^ 24 : Int)).natAbs ≤ 2 ^ 24 := by decide


end Sys2Proof.Tests
end

/-! The status word as a number with its fields (R80), the answers of GET_STATUS and READ (R81, R461, R462), and the obligations O38 and O39. -/

namespace Sys2Proof.Machine

/-! ### The fields of a word, by division -/

theorem getLsbD_of_toNat_div {w : Word} {i : Nat} {b : Bool} (h : w.toNat / 2 ^ i % 2 = b.toNat) : w.getLsbD i = b := by
  rw [BitVec.getLsbD, Nat.testBit_eq_decide_div_mod_eq, h]
  cases b <;> rfl

theorem extractLsb'_of_toNat_div {w : Word} {i len x : Nat} (h : w.toNat / 2 ^ i % 2 ^ len = x) :
    w.extractLsb' i len = BitVec.ofNat len x := by
  apply BitVec.eq_of_toNat_eq
  rw [BitVec.extractLsb'_toNat, BitVec.toNat_ofNat, Nat.shiftRight_eq_div_pow, ← h, Nat.mod_mod]

/-! ### The parts of the status word -/

theorem flagBit_eq (b : Bool) (pos : Nat) : flagBit b pos = b.toNat * 2 ^ pos := by
  cases b <;> simp [flagBit]

theorem playStateCode_lt (p : PlayState) : p.code < 4 := by cases p <;> simp [PlayState.code]

theorem faultCodeCode_lt (f : FaultCode) : f.code < 16 := by cases f <;> simp [FaultCode.code]

theorem configBits_eq (c : Config) :
    configBits c =
      (decide (c.backend = .vr)).toNat * 2 ^ 13 + (decide (c.backend = .vr ∧ c.quality = .accurate)).toNat * 2 ^ 14 +
        (decide (c.backend = .fp ∧ c.video = .ntsc)).toNat * 2 ^ 15 := by
  unfold configBits
  cases c.backend
  case fp => cases c.video <;> simp [flagBit]
  case vr => cases c.quality <;> simp [flagBit]

/-- Below 16 bits each register of R80 has a place of its own, so no field carries into the next: the status word's number, cut at
the fields' positions, gives the registers back. -/
theorem statusWord_toNat_fields (s : State) :
    let n := s.statusWord.toNat
    n / 2 ^ 0 % 2 ^ 2 = s.clk.state.code ∧ n / 2 ^ 2 % 2 = s.clk.tickPending.toNat ∧ n / 2 ^ 3 % 2 = s.flr.fault.toNat ∧
      n / 2 ^ 4 % 2 ^ 4 = s.flr.faultCode.code ∧ n / 2 ^ 8 % 2 = s.isSealed.toNat ∧ n / 2 ^ 9 % 2 = s.clk.loopSong.toNat ∧
      n / 2 ^ 10 % 2 = s.flt.ledActive.toNat ∧ n / 2 ^ 11 % 2 = s.flt.ledForced.toNat ∧
      n / 2 ^ 12 % 2 = s.snk.sinkFull.toNat ∧ n / 2 ^ 13 % 2 = (decide (s.cfg.backend = .vr)).toNat ∧
      n / 2 ^ 14 % 2 = (decide (s.cfg.backend = .vr ∧ s.cfg.quality = .accurate)).toNat ∧
      n / 2 ^ 15 % 2 = (decide (s.cfg.backend = .fp ∧ s.cfg.video = .ntsc)).toNat ∧ n / 2 ^ 16 % 2 ^ 16 = 0 := by
  have hstate := playStateCode_lt s.clk.state
  have hcode := faultCodeCode_lt s.flr.faultCode
  have htick := Bool.toNat_le s.clk.tickPending
  have hfault := Bool.toNat_le s.flr.fault
  have hsealed := Bool.toNat_le s.isSealed
  have hloop := Bool.toNat_le s.clk.loopSong
  have hactive := Bool.toNat_le s.flt.ledActive
  have hforced := Bool.toNat_le s.flt.ledForced
  have hfull := Bool.toNat_le s.snk.sinkFull
  have hbackend := Bool.toNat_le (decide (s.cfg.backend = .vr))
  have hquality := Bool.toNat_le (decide (s.cfg.backend = .vr ∧ s.cfg.quality = .accurate))
  have hvideo := Bool.toNat_le (decide (s.cfg.backend = .fp ∧ s.cfg.video = .ntsc))
  simp only [State.statusWord, value, flagBit_eq, configBits_eq, BitVec.toNat_ofNat]
  omega

/-- A new instance's registers leave only the configuration bits of its status word. -/
theorem statusWord_powerOn (c : Config) : (State.powerOn c).statusWord = value (configBits c) := by
  simp [State.statusWord, State.powerOn, PlayState.code, FaultCode.code, flagBit]

/-! ### What GET_STATUS and READ answer -/

theorem exec_status (d : Word) (s : State) : exec (.status d) s = execStatus d s := rfl

theorem exec_read (d : Word) (s : State) : exec (.read d) s = execRead d s := rfl

theorem exec_status_zero (s : State) : exec (.status 0#32) s = .next (s.reply .ok s.statusWord) := by
  rw [exec_status, execStatus, guarded_passes (by simp [opZero])]

/-- A selector of R81's table passes READ's check and is answered with the register it names. -/
theorem exec_read_of_readable {s : State} {d : Word} {n : Nat} (hd : d.toNat ≤ 11) (hn : s.readable d.toNat = some n) :
    exec (.read d) s = .next (s.reply .ok (BitVec.ofNat 32 n)) := by
  rw [exec_read, execRead, guarded_passes (by simp [opRange, hd]), opU32, hn]
  rfl

theorem exec_read_of_lt {s : State} {d : Word} (hd : 11 < d.toNat) : exec (.read d) s = .next (s.refuseWith .badValue) := by
  rw [exec_read, execRead, guarded_refuses (st := .badValue) (by simp [opRange, hd, firstError])]

/-! ### The obligations -/

/-- Settles O38: every field of R80 is a place of the status word's number, and a new instance has only the configuration's. -/
theorem statusWordFields : Obligations.StatusWordFields := by
  refine ⟨fun s => ⟨s.statusWord, exec_status_zero s, ?_⟩, fun c => ⟨_, exec_status_zero _, ?_⟩⟩
  · obtain ⟨hstate, htick, hfault, hcode, hsealed, hloop, hactive, hforced, hfull, hbackend, hquality, hvideo, hrest⟩ :=
      statusWord_toNat_fields s
    refine ⟨?_, getLsbD_of_toNat_div htick, getLsbD_of_toNat_div hfault, ?_, getLsbD_of_toNat_div hsealed,
      getLsbD_of_toNat_div hloop, getLsbD_of_toNat_div hactive, getLsbD_of_toNat_div hforced, getLsbD_of_toNat_div hfull,
      getLsbD_of_toNat_div hbackend, getLsbD_of_toNat_div hquality, getLsbD_of_toNat_div hvideo,
      extractLsb'_of_toNat_div hrest⟩
    · rw [extractLsb'_of_toNat_div hstate]
      cases s.clk.state <;> rfl
    · rw [extractLsb'_of_toNat_div hcode]
      cases s.flr.faultCode <;> rfl
  · rw [statusWord_powerOn]
    apply extractLsb'_of_toNat_div
    rw [value, configBits_eq, BitVec.toNat_ofNat]
    omega

/-- Settles O39: the twelve selectors of R81's table one by one, then every word above them. -/
theorem readSelectors : Obligations.ReadSelectors := by
  intro s
  refine ⟨?_, ?_, ?_, ?_, ?_, ?_, ?_, ?_, ?_, ?_, ?_, ?_, fun d hd => exec_read_of_lt hd⟩ <;>
    exact exec_read_of_readable (by decide) rfl

end Sys2Proof.Machine

/-! The bytes of a PCM frame (R105, R503), and the obligation O57. -/

namespace Sys2Proof.Machine

/-- A 16-bit value leaves low byte first: put back with the high byte on top, its two bytes are its two's complement pattern. -/
theorem pcm16_littleEndian (n : Int) :
    ∃ lo hi : Byte, pcm16 n = [lo, hi] ∧ (hi ++ lo : BitVec 16) = BitVec.ofInt 16 n :=
  ⟨_, _, rfl, BitVec.extractLsb'_append_extractLsb'⟩

/-- Settles O57: the left value's two bytes, then the right value's. -/
theorem frameBytesAreLittleEndian : Obligations.FrameBytesAreLittleEndian := by
  intro c a
  obtain ⟨l0, l1, hleft, hl⟩ := pcm16_littleEndian (convert c a.l)
  obtain ⟨r0, r1, hright, hr⟩ := pcm16_littleEndian (convert c a.r)
  have hbytes : frameBytes c a = [l0, l1, r0, r1] := by rw [frameBytes, hleft, hright]; rfl
  exact ⟨l0, l1, r0, r1, hbytes, hl, hr⟩

end Sys2Proof.Machine

/-! The decoder's checks in R143's order, how a voice command meets R615's checks, and the obligation O3. -/

namespace Sys2Proof.Machine

/-! ### The fields of a command word, as bit slices (R140) -/

theorem extractLsb'_op (cmd : Word) : (cmd.extractLsb' 24 8).toNat = cmdOp cmd := by
  have hcmd := cmd.isLt
  rw [BitVec.extractLsb'_toNat, Nat.shiftRight_eq_div_pow, cmdOp]
  omega

theorem extractLsb'_voice (cmd : Word) : cmd.extractLsb' 16 8 = cmdVoice cmd := by
  rw [BitVec.extractLsb', Nat.shiftRight_eq_div_pow, cmdVoice]

theorem extractLsb'_rsv_eq_zero_iff (cmd : Word) : cmd.extractLsb' 0 16 = 0#16 ↔ cmdRsv cmd = 0 := by
  rw [← BitVec.toNat_inj, BitVec.extractLsb'_toNat, Nat.shiftRight_zero, cmdRsv]
  rfl

/-! ### The opcode table by family (R143, R146) -/

/-- The opcodes of the control commands. -/
abbrev ControlOpcode (op : Nat) : Prop := 0x01 ≤ op ∧ op ≤ 0x0D

/-- The opcodes of the voice commands of a backend (R143 checks 4 and 5). -/
abbrev VoiceOpcode : Backend → Nat → Prop
  | .fp, op => 0x10 ≤ op ∧ op ≤ 0x18
  | .vr, op => (0x20 ≤ op ∧ op ≤ 0x2B) ∨ (0x30 ≤ op ∧ op ≤ 0x35)

theorem opRow_control {op : Nat} (h : ControlOpcode op) :
    ∃ make, opRow op = some (.control make) ∧
      ∀ d, (make d).backend? = none ∧ encode (make d) = (cmdWord op 0#8, d) := by
  obtain ⟨hlo, hhi⟩ := h
  interval_cases op <;> exact ⟨_, rfl, fun _ => ⟨rfl, rfl⟩⟩

theorem opRow_voice {b : Backend} {op : Nat} (h : VoiceOpcode b op) :
    ∃ make, opRow op = some (.voice make) ∧
      ∀ v d, (make v d).backend? = some b ∧ encode (make v d) = (cmdWord op v, d) := by
  cases b with
  | fp =>
    obtain ⟨hlo, hhi⟩ := h
    interval_cases op <;> exact ⟨_, rfl, fun _ _ => ⟨rfl, rfl⟩⟩
  | vr =>
    obtain ⟨hlo, hhi⟩ | ⟨hlo, hhi⟩ := h <;> interval_cases op <;> exact ⟨_, rfl, fun _ _ => ⟨rfl, rfl⟩⟩

/-- Outside the three families the table has no row. -/
theorem opRow_none {op : Nat} (h : ¬(ControlOpcode op ∨ VoiceOpcode .fp op ∨ VoiceOpcode .vr op)) : opRow op = none := by
  unfold opRow
  split
  case h_41 => rfl
  all_goals exact absurd h (by decide)

theorem opRow_some {op : Nat} (h : ControlOpcode op ∨ VoiceOpcode .fp op ∨ VoiceOpcode .vr op) :
    ∃ row, opRow op = some row := by
  rcases h with h | h | h
  · exact (opRow_control h).imp' _ fun _ hrow => hrow.1
  · exact (opRow_voice h).imp' _ fun _ hrow => hrow.1
  · exact (opRow_voice h).imp' _ fun _ hrow => hrow.1

/-! ### The decoder, one check at a time (R143) -/

theorem onBackend_of_control {i : Instr} (h : i.backend? = none) (b : Backend) : i.onBackend b = true := by
  rw [Instr.onBackend, h]

theorem onBackend_of_voice {i : Instr} {b : Backend} (h : i.backend? = some b) (b' : Backend) :
    i.onBackend b' = (b == b') := by
  rw [Instr.onBackend, h]

section
variable {b b' : Backend} {cmd data : Word}

theorem decode_unknown_opcode (h : opRow (cmdOp cmd) = none) : decode b cmd data = .error .opcode := by
  simp [decode, decodePair, h]

theorem decode_reserved {row : OpRow} (h : opRow (cmdOp cmd) = some row) (hrsv : cmdRsv cmd ≠ 0) :
    decode b cmd data = .error .reserved := by
  simp [decode, decodePair, h, hrsv]

theorem decode_control_with_voice (h : ControlOpcode (cmdOp cmd)) (hrsv : cmdRsv cmd = 0) (hv : cmdVoice cmd ≠ 0#8) :
    decode b cmd data = .error .voiceOnControl := by
  obtain ⟨make, hrow, -⟩ := opRow_control h
  simp [decode, decodePair, hrow, hrsv, hv]

theorem decode_other_backend (h : VoiceOpcode b' (cmdOp cmd)) (hrsv : cmdRsv cmd = 0) (hb : b' ≠ b) :
    decode b cmd data = .error .otherBackend := by
  obtain ⟨make, hrow, hmake⟩ := opRow_voice h
  have hon := onBackend_of_voice (hmake (cmdVoice cmd) data).1 b
  simp [decode, decodePair, hrow, hrsv, hon, hb]

/-- A control command that passes checks 2 and 3 is decoded, on either backend. -/
theorem decode_control (h : ControlOpcode (cmdOp cmd)) (hrsv : cmdRsv cmd = 0) (hv : cmdVoice cmd = 0#8) :
    ∃ i, decode b cmd data = .ok i ∧ encode i = (cmd, data) := by
  obtain ⟨make, hrow, hmake⟩ := opRow_control h
  obtain ⟨hbackend, hencode⟩ := hmake data
  refine ⟨make data, ?_, ?_⟩
  · simp [decode, decodePair, hrow, hrsv, hv, onBackend_of_control hbackend b]
  · rw [hencode, ← hv, cmdWord_fields cmd hrsv]

/-- A voice command of the instance's backend that passes check 2 is decoded, whatever its voice number. -/
theorem decode_voice (h : VoiceOpcode b (cmdOp cmd)) (hrsv : cmdRsv cmd = 0) :
    ∃ i, decode b cmd data = .ok i ∧ encode i = (cmd, data) := by
  obtain ⟨make, hrow, hmake⟩ := opRow_voice h
  obtain ⟨hbackend, hencode⟩ := hmake (cmdVoice cmd) data
  refine ⟨make (cmdVoice cmd) data, ?_, ?_⟩
  · simp [decode, decodePair, hrow, hrsv, onBackend_of_voice hbackend b]
  · rw [hencode, cmdWord_fields cmd hrsv]

theorem onBackend_of_decode {i : Instr} (h : decode b cmd data = .ok i) : i.onBackend b = true := by
  unfold decode at h
  split at h
  · cases h
  next j _ =>
    split at h
    next hj => cases h; exact hj
    · cases h

end

/-! ### A voice command meets the checks of R615 -/

/-- Each of the 27 voice commands makes R615's voice checks, for its own backend and operand, before it acts. -/
theorem exec_voice_eq_guarded {i : Instr} {v : BitVec 8} (hv : i.voice? = some v) (s : State) :
    ∃ b act, i.backend? = some b ∧ exec i s = guarded (voiceChecks b v i.operandLegal s) s act := by
  cases i <;> cases hv <;> exact ⟨_, _, rfl, rfl⟩

/-- On its own backend and outside the fault state, a command to a voice that does not exist is answered BAD_VOICE. -/
theorem exec_badVoice {s : State} {i : Instr} {v : BitVec 8} (hv : i.voice? = some v)
    (hon : i.onBackend s.cfg.backend = true) (hfault : s.flr.fault = false) (hrange : s.cfg.voiceCount ≤ v.toNat) :
    exec i s = .next (s.refuseWith .badVoice) := by
  obtain ⟨b, act, hbackend, hexec⟩ := exec_voice_eq_guarded hv s
  have hb : b = s.cfg.backend := by simpa [onBackend_of_voice hbackend] using hon
  rw [hexec]
  apply guarded_refuses
  simp [voiceChecks, firstError, hb, hfault, hrange]

/-! ### The obligation -/

/-- Settles O3: each opcode family's row of the table decides the decoder's checks; a voice number is looked at only when the
decoded command runs. -/
theorem decoderChecksInOrder : Obligations.DecoderChecksInOrder := by
  refine ⟨fun b cmd data => ?_, fun s cmd data i v hdecode hv hrange hfault =>
    exec_badVoice hv (onBackend_of_decode hdecode) hfault hrange⟩
  simp only [extractLsb'_op, extractLsb'_voice, extractLsb'_rsv_eq_zero_iff, ne_eq]
  refine ⟨fun hop => decode_unknown_opcode (opRow_none hop), fun hop => ⟨fun hrsv => ?_, fun hrsv => ⟨?_, ?_, ?_, ?_⟩⟩⟩
  · obtain ⟨row, hrow⟩ := opRow_some hop
    exact decode_reserved hrow hrsv
  · exact fun hcontrol hvoice => decode_control_with_voice hcontrol hrsv hvoice
  · rintro hfp rfl
    exact decode_other_backend (b' := .fp) hfp hrsv (by decide)
  · rintro hvr rfl
    exact decode_other_backend (b' := .vr) hvr hrsv (by decide)
  · rintro (⟨hcontrol, hvoice⟩ | ⟨hfp, rfl⟩ | ⟨hvr, rfl⟩)
    · exact decode_control hcontrol hrsv hvoice
    · exact decode_voice hfp hrsv
    · exact decode_voice hvr hrsv

end Sys2Proof.Machine

/-! The gate of a fixed-period sample (R211, R213), and the obligation O42. -/

namespace Sys2Proof.Machine

/-- The gate stands before the timing part and the contribution: a voice that is disabled or at most at the minimum period leaves its
registers and the frame as they came. -/
theorem fpVoiceSample_of_skipped {v : FpVoice} (h : v.enabled = false ∨ v.period ≤ fpMinPeriod) (c : Config) (m : Memory)
    (a : Frame) : fpVoiceSample c m v a = ⟨v, a, none⟩ := by
  have hgate : (!v.enabled || decide (v.period ≤ fpMinPeriod)) = true := by
    rwa [Bool.or_eq_true, Bool.not_eq_true', decide_eq_true_iff]
  rw [fpVoiceSample, if_pos hgate]

/-- Settles O42: 60 is the gate's minimum period, and the gate skips the voice whether it is enabled or not. -/
theorem periodGateSkipsVoice : Obligations.PeriodGateSkipsVoice :=
  fun c m _ a hperiod => fpVoiceSample_of_skipped (.inr hperiod) c m a

end Sys2Proof.Machine

/-! The `repeat` loop of R321 ends in the closed form of R332, and the obligation O48. -/

namespace Sys2Proof.Machine

/-- How far a stream is past the boundary it moves towards, 0 when it is not past it (R321). -/
def Stream.overshoot (t : Stream) : Nat :=
  match t.direction with
  | .ahead => (t.pointer + 1 - t.loopEnd).toNat
  | .backward => (t.loopStart - t.pointer).toNat
  | .still => 0

/-- One reflection of R321's loop, about the boundary the stream moves towards. -/
def Stream.mirrored (t : Stream) : Stream :=
  match t.direction with
  | .ahead => { t with pointer := 2 * t.loopEnd - 1 - t.pointer, direction := .backward }
  | .backward => { t with pointer := 2 * t.loopStart - 1 - t.pointer, direction := .ahead }
  | .still => t

/-- A shift by half the period, on remainders: R332 counts its reflections by whether the remainder is in the lower half. -/
theorem emod_sub_half {n : Int} (hn : 0 < n) (e : Int) :
    (e - n) % (2 * n) = if e % (2 * n) < n then e % (2 * n) + n else e % (2 * n) - n := by
  have hdiv := Int.emod_add_mul_ediv e (2 * n)
  have hlo := Int.emod_nonneg e (show 2 * n ≠ 0 by omega)
  have hhi := Int.emod_lt_of_pos e (show 0 < 2 * n by omega)
  split
  · have h : e - n = e % (2 * n) + n + 2 * n * (e / (2 * n) - 1) := by rw [mul_sub]; omega
    rw [h, Int.add_mul_emod_self_left, Int.emod_eq_of_lt (by omega) (by omega)]
  · have h : e - n = e % (2 * n) - n + 2 * n * (e / (2 * n)) := by omega
    rw [h, Int.add_mul_emod_self_left, Int.emod_eq_of_lt (by omega) (by omega)]

section
variable {t : Stream}

@[simp] theorem mirrored_loopStart (t : Stream) : t.mirrored.loopStart = t.loopStart := by
  unfold Stream.mirrored
  split <;> rfl

@[simp] theorem mirrored_loopLength (t : Stream) : t.mirrored.loopLength = t.loopLength := by
  unfold Stream.mirrored
  split <;> rfl

@[simp] theorem mirrored_loopEnd (t : Stream) : t.mirrored.loopEnd = t.loopEnd := by
  simp [Stream.loopEnd]

/-- Each reflection takes one loop length off the overshoot, so the loop ends. -/
theorem overshoot_mirrored (t : Stream) : t.mirrored.overshoot = t.overshoot - t.loopLength := by
  unfold Stream.overshoot Stream.mirrored
  cases hd : t.direction <;> simp only [hd, Stream.loopEnd] <;> omega

theorem mirrorLoop_of_overshoot_eq_zero (h : t.overshoot = 0) (fuel : Nat) :
    mirrorLoop t.loopStart t.loopEnd fuel (t.pointer, t.direction) = (t.pointer, t.direction) := by
  cases fuel with
  | zero => rfl
  | succ fuel =>
    unfold Stream.overshoot at h
    rw [mirrorLoop]
    cases hd : t.direction <;> simp [hd] at h ⊢ <;> omega

theorem mirrorLoop_succ_of_overshoot_pos (h : 0 < t.overshoot) (fuel : Nat) :
    mirrorLoop t.loopStart t.loopEnd (fuel + 1) (t.pointer, t.direction) =
      mirrorLoop t.loopStart t.loopEnd fuel (t.mirrored.pointer, t.mirrored.direction) := by
  unfold Stream.overshoot at h
  rw [mirrorLoop, Stream.mirrored]
  cases hd : t.direction <;> simp [hd] at h ⊢ <;> omega

theorem reflect_of_overshoot_eq_zero (h : t.overshoot = 0) : reflect t t.pointer = (t.pointer, t.direction) := by
  unfold Stream.overshoot at h
  unfold reflect
  cases hd : t.direction <;> simp [hd] at h ⊢ <;> omega

theorem reflect_of_ahead {e : Nat} (hd : t.direction = .ahead) (he : t.overshoot = e + 1) :
    reflect t t.pointer =
      if (e : Int) % (2 * t.loopLength) < t.loopLength then (t.loopEnd - 1 - (e : Int) % (2 * t.loopLength), .backward)
      else (t.loopStart + (e : Int) % (2 * t.loopLength) - t.loopLength, .ahead) := by
  simp only [Stream.overshoot, hd] at he
  have hpast : (t.loopEnd : Int) ≤ t.pointer := by omega
  have hdist : t.pointer - t.loopEnd = e := by omega
  simp only [reflect, hd, if_pos hpast, hdist]

theorem reflect_of_backward {e : Nat} (hd : t.direction = .backward) (he : t.overshoot = e + 1) :
    reflect t t.pointer =
      if (e : Int) % (2 * t.loopLength) < t.loopLength then (t.loopStart + (e : Int) % (2 * t.loopLength), .ahead)
      else (t.loopEnd - 1 - ((e : Int) % (2 * t.loopLength) - t.loopLength), .backward) := by
  simp only [Stream.overshoot, hd] at he
  have hpast : t.pointer < (t.loopStart : Int) := by omega
  have hdist : t.loopStart - 1 - t.pointer = e := by omega
  simp only [reflect, hd, if_pos hpast, hdist]

/-- A reflection that lands inside the loop is what the closed form gives. -/
theorem reflect_of_overshoot_le (h : 0 < t.overshoot) (hle : t.overshoot ≤ t.loopLength) :
    reflect t t.pointer = (t.mirrored.pointer, t.mirrored.direction) := by
  obtain ⟨e, he⟩ := Nat.exists_eq_add_one.mpr h
  have hmod : (e : Int) % (2 * t.loopLength) = e := Int.emod_eq_of_lt (by omega) (by omega)
  have hlow : (e : Int) < t.loopLength := by omega
  cases hd : t.direction with
  | still => simp [Stream.overshoot, hd] at h
  | ahead =>
    rw [reflect_of_ahead hd he, hmod, if_pos hlow]
    simp only [Stream.overshoot, hd] at he
    simp only [Stream.mirrored, hd, Prod.mk.injEq, and_true]
    omega
  | backward =>
    rw [reflect_of_backward hd he, hmod, if_pos hlow]
    simp only [Stream.overshoot, hd] at he
    simp only [Stream.mirrored, hd, Prod.mk.injEq, and_true]
    omega

/-- The closed form does not see a reflection: it gives the same end before and after it. -/
theorem reflect_mirrored (hlen : 0 < t.loopLength) (h : 0 < t.overshoot) :
    reflect t.mirrored t.mirrored.pointer = reflect t t.pointer := by
  have hshort := overshoot_mirrored t
  obtain hle | hgt := le_or_gt t.overshoot t.loopLength
  · rw [reflect_of_overshoot_eq_zero (by omega), reflect_of_overshoot_le h hle]
  · obtain ⟨e, he⟩ := Nat.exists_eq_add_one.mpr h
    have he' : t.mirrored.overshoot = e - t.loopLength + 1 := by omega
    have hcast : ((e - t.loopLength : Nat) : Int) = e - t.loopLength := by omega
    have hlo := Int.emod_nonneg (e : Int) (show (2 * t.loopLength : Int) ≠ 0 by omega)
    have hhi := Int.emod_lt_of_pos (e : Int) (show (0 : Int) < 2 * t.loopLength by omega)
    have hhalf := emod_sub_half (show (0 : Int) < t.loopLength by omega) e
    cases hd : t.direction with
    | still => simp [Stream.overshoot, hd] at h
    | ahead =>
      have hd' : t.mirrored.direction = .backward := by simp [Stream.mirrored, hd]
      rw [reflect_of_backward hd' he', reflect_of_ahead hd he, mirrored_loopStart, mirrored_loopLength, mirrored_loopEnd,
        hcast, hhalf]
      split
      · rw [if_neg (by omega), Int.add_sub_cancel]
      · rw [if_pos (by omega), Int.add_sub_assoc]
    | backward =>
      have hd' : t.mirrored.direction = .ahead := by simp [Stream.mirrored, hd]
      rw [reflect_of_ahead hd' he', reflect_of_backward hd he, mirrored_loopStart, mirrored_loopLength, mirrored_loopEnd,
        hcast, hhalf]
      split
      · rw [if_neg (by omega), Int.add_sub_assoc, Int.add_sub_cancel]
      · rw [if_pos (by omega)]

/-- The loop with fuel for its overshoot ends where the closed form says. -/
theorem mirrorLoop_eq_reflect (hlen : 0 < t.loopLength) (fuel : Nat) (hfuel : t.overshoot ≤ fuel) :
    mirrorLoop t.loopStart t.loopEnd fuel (t.pointer, t.direction) = reflect t t.pointer := by
  induction fuel generalizing t with
  | zero =>
    have hzero : t.overshoot = 0 := by omega
    rw [mirrorLoop_of_overshoot_eq_zero hzero, reflect_of_overshoot_eq_zero hzero]
  | succ fuel ih =>
    obtain hzero | hpos := Nat.eq_zero_or_pos t.overshoot
    · rw [mirrorLoop_of_overshoot_eq_zero hzero, reflect_of_overshoot_eq_zero hzero]
    · have hmirrored := ih (t := t.mirrored) (by simpa using hlen) (by rw [overshoot_mirrored]; omega)
      rw [mirrorLoop_succ_of_overshoot_pos hpos, ← reflect_mirrored hlen hpos, ← hmirrored, mirrored_loopStart, mirrored_loopEnd]

end

/-- Settles O48: the overshoot is fuel enough, as every reflection makes it smaller and keeps the closed form. -/
theorem pingPongClosedForm : Obligations.PingPongClosedForm :=
  fun t hlen => ⟨t.overshoot, fun _ => mirrorLoop_eq_reflect hlen _ (Nat.le_add_right _ _)⟩

end Sys2Proof.Machine

/-! The slews of a variable-rate voice (R328) within its sample (R329), and the obligation O50. -/

namespace Sys2Proof.Machine

/-! ### The two slews over many steps -/

/-- A counter at 0 stays there, so the counters need no case. -/
theorem slewVolume_eq (v : VrVoice) :
    slewVolume v =
      { v with
        volCounter := v.volCounter - 1
        curVol :=
          if v.volCounter = 0 then v.curVol
          else if v.volCounter = 1 then NUM.toNUM v.volume else NUM.fadd v.curVol v.volumeRamp } := by
  unfold slewVolume
  split
  next hpos => rw [if_neg hpos.ne']
  next hzero =>
    have hcounter : v.volCounter - 1 = v.volCounter := by omega
    rw [if_pos (by omega), hcounter]

theorem slewPanning_eq (v : VrVoice) :
    slewPanning v =
      { v with
        panCounter := v.panCounter - 1
        curPan :=
          if v.panCounter = 0 then v.curPan
          else if v.panCounter = 1 then NUM.toNUM v.panning else NUM.fadd v.curPan v.panningRamp } := by
  unfold slewPanning
  split
  next hpos => rw [if_neg hpos.ne']
  next hzero =>
    have hcounter : v.panCounter - 1 = v.panCounter := by omega
    rw [if_pos (by omega), hcounter]

theorem slewStep_eq (v : VrVoice) :
    slewStep v =
      { v with
        volCounter := v.volCounter - 1
        curVol :=
          if v.volCounter = 0 then v.curVol
          else if v.volCounter = 1 then NUM.toNUM v.volume else NUM.fadd v.curVol v.volumeRamp
        panCounter := v.panCounter - 1
        curPan :=
          if v.panCounter = 0 then v.curPan
          else if v.panCounter = 1 then NUM.toNUM v.panning else NUM.fadd v.curPan v.panningRamp } := by
  rw [slewStep, slewPanning_eq, slewVolume_eq]

/-- A counter that falls at each step reaches 0 after as many steps, and the value set at the step from 1 is there then. -/
theorem iterate_lands {V X : Type} {f : V → V} {counter : V → Nat} {value target : V → X}
    (hcounter : ∀ v, counter (f v) = counter v - 1) (htarget : ∀ v, target (f v) = target v)
    (hlast : ∀ v, counter v = 1 → value (f v) = target v) (v : V) (hpos : 0 < counter v) :
    value (f^[counter v] v) = target v ∧ counter (f^[counter v] v) = 0 := by
  induction hn : counter v generalizing v with
  | zero => omega
  | succ n ih =>
    rw [Function.iterate_succ_apply]
    have hstep : counter (f v) = n := by rw [hcounter, hn, Nat.add_sub_cancel]
    cases n with
    | zero => exact ⟨hlast v hn, hstep⟩
    | succ n =>
      rw [← htarget v]
      exact ih (f v) (by omega) hstep

theorem slewVolume_lands (v : VrVoice) (hpos : 0 < v.volCounter) :
    (slewStep^[v.volCounter] v).curVol = NUM.toNUM v.volume ∧ (slewStep^[v.volCounter] v).volCounter = 0 :=
  iterate_lands (value := VrVoice.curVol) (target := fun v => NUM.toNUM v.volume) (fun v => by rw [slewStep_eq])
    (fun v => by simp) (fun v h => by simp [slewStep_eq, h]) v hpos

theorem slewPanning_lands (v : VrVoice) (hpos : 0 < v.panCounter) :
    (slewStep^[v.panCounter] v).curPan = NUM.toNUM v.panning ∧ (slewStep^[v.panCounter] v).panCounter = 0 :=
  iterate_lands (value := VrVoice.curPan) (target := fun v => NUM.toNUM v.panning) (fun v => by rw [slewStep_eq])
    (fun v => by simp) (fun v h => by simp [slewStep_eq, h]) v hpos

/-! ### The slew within a sample -/

/-- What the parts of a sample after its slew step leave alone (R329). -/
abbrev VrVoice.SameSlew (v w : VrVoice) : Prop :=
  w.volCounter = v.volCounter ∧ w.curVol = v.curVol ∧ w.panCounter = v.panCounter ∧ w.curPan = v.curPan

theorem VrVoice.SameSlew.trans {u v w : VrVoice} (h : u.SameSlew v) (k : v.SameSlew w) : u.SameSlew w := by
  simp_all only [VrVoice.SameSlew, and_self]

theorem oldStep_sameSlew (c : Config) (v : VrVoice) : v.SameSlew (oldStep c v) := by
  unfold oldStep
  split <;> simp [VrVoice.SameSlew]

theorem vrHold_sameSlew (lr : NUM × NUM) (v : VrVoice) : v.SameSlew (vrHold lr v) := by
  unfold vrHold
  split <;> simp [VrVoice.SameSlew]

/-- Of a sample's contribution only the slew step moves the slews, whether the sample faults, crossfades or does neither. -/
theorem vrContribution_sameSlew (c : Config) (m : Memory) (v : VrVoice) :
    (slewStep v).SameSlew (vrContribution c m v).1 := by
  unfold vrContribution
  dsimp only
  split
  · exact ⟨rfl, rfl, rfl, rfl⟩
  · split
    · split
      · exact ⟨rfl, rfl, rfl, rfl⟩
      · exact oldStep_sameSlew c (rampStep (gains c (slewStep v)) (slewStep v))
    · exact ⟨rfl, rfl, rfl, rfl⟩

theorem vrContribution_of_no_crossfade {c : Config} {m : Memory} {v : VrVoice} {x : NUM} (hmix : v.mixCounter = 0)
    (hx : streamValue c m v.live = .ok x) :
    vrContribution c m v =
      (slewStep v, .ok (NUM.fmul x (gains c (slewStep v)).1, NUM.fmul x (gains c (slewStep v)).2)) := by
  simp [vrContribution, hx, hmix]

theorem vrVoiceSample_of_disabled (c : Config) (m : Memory) {v : VrVoice} (a : Frame) (h : v.enabled = false) :
    vrVoiceSample c m v a = ⟨v, a, none⟩ := by
  simp [vrVoiceSample, h]

theorem vrVoiceSample_of_fault {c : Config} {m : Memory} {v w : VrVoice} {e : MixStop} (a : Frame) (h : v.enabled = true)
    (hw : vrContribution c m v = (w, .error e)) : vrVoiceSample c m v a = ⟨w, a, some e⟩ := by
  simp [vrVoiceSample, h, hw]

theorem vrVoiceSample_of_contribution {c : Config} {m : Memory} {v w : VrVoice} {lr : NUM × NUM} (a : Frame)
    (h : v.enabled = true) (hw : vrContribution c m v = (w, .ok lr)) :
    vrVoiceSample c m v a =
      ⟨vrHold lr (liveStep c w), addFrame a (vrHold lr (liveStep c w)).heldL (vrHold lr (liveStep c w)).heldR, none⟩ := by
  simp [vrVoiceSample, h, hw]

/-- An enabled voice takes exactly one slew step per sample, also in a sample that faults. -/
theorem vrVoiceSample_sameSlew (c : Config) (m : Memory) {v : VrVoice} (a : Frame) (h : v.enabled = true) :
    (slewStep v).SameSlew (vrVoiceSample c m v a).voices := by
  have hw := vrContribution_sameSlew c m v
  cases hc : vrContribution c m v with
  | mk w r =>
    rw [hc] at hw
    cases r with
    | error e =>
      rw [vrVoiceSample_of_fault a h hc]
      exact hw
    | ok lr =>
      rw [vrVoiceSample_of_contribution a h hc]
      have hlive : w.SameSlew (liveStep c w) := by rw [liveStep_keeps]; exact ⟨rfl, rfl, rfl, rfl⟩
      exact (hw.trans hlive).trans (vrHold_sameSlew lr (liveStep c w))

/-- Settles O50: the step by its two halves, the landing by the counters, and the sample by what follows its slew step. -/
theorem slewLandsExactly : Obligations.SlewLandsExactly := by
  refine ⟨slewStep_eq, fun v => ⟨slewVolume_lands v, slewPanning_lands v⟩,
    fun c m v a h => vrVoiceSample_of_disabled c m a h, fun c m v a h => ⟨vrVoiceSample_sameSlew c m a h, ?_⟩⟩
  intro x _ hmix hmute hx
  rw [vrVoiceSample_of_contribution a h (vrContribution_of_no_crossfade hmix hx), vrHold, liveStep_keeps]
  simp [hmute]

end Sys2Proof.Machine

/-! One side of FilterSample, stage by stage (R401, R403), and the obligation O55. -/

namespace Sys2Proof.Machine

/-! ### The stages of one side -/

/-- The base stages run whether the LED stage does or not, the second on the first's new state. -/
theorem filterSide_base (c : Config) (led : Bool) (h : Stages) (x : NUM) :
    (filterSide c led h x).1.s1 = onePole c.filtA1 c.filtB1 x h.s1 ∧
      (filterSide c led h x).1.s2 = onePole c.filtA2 c.filtB2 (filterSide c led h x).1.s1 h.s2 := by
  cases led with
  | false => exact ⟨rfl, rfl⟩
  | true => exact ⟨rfl, rfl⟩

/-- Without the LED stage the second stage's state goes out, and the LED histories keep their values (R403). -/
theorem filterSide_ledOff (c : Config) (h : Stages) (x : NUM) :
    (filterSide c false h x).2 = (filterSide c false h x).1.s2 ∧
      (filterSide c false h x).1.s3 = h.s3 ∧ (filterSide c false h x).1.s4 = h.s4 :=
  ⟨rfl, rfl, rfl⟩

/-- The LED stage is two passes with the same constants, each on the state of the stage before it, and the second goes out. -/
theorem filterSide_ledOn (c : Config) (h : Stages) (x : NUM) :
    (filterSide c true h x).1.s3 = onePole c.filtA3 c.filtB3 (filterSide c true h x).1.s2 h.s3 ∧
      (filterSide c true h x).1.s4 = onePole c.filtA3 c.filtB3 (filterSide c true h x).1.s3 h.s4 ∧
      (filterSide c true h x).2 = (filterSide c true h x).1.s4 :=
  ⟨rfl, rfl, rfl⟩

/-! ### FilterSample by its two sides -/

/-- Both sides run with the one LED switch `ledActive or ledForced`, and the flags stay. -/
theorem filterSample_of_led {f : Filter} {led : Bool} (hled : (f.ledActive || f.ledForced) = led) (c : Config) (a : Frame) :
    filterSample c f a =
      ({ f with left := (filterSide c led f.left a.l).1, right := (filterSide c led f.right a.r).1 },
        ⟨(filterSide c led f.left a.l).2, (filterSide c led f.right a.r).2⟩) := by
  rw [filterSample, hled]

/-- Settles O55: the base stages of each side for either LED switch, then the LED stage of each side with the switch off and on. -/
theorem filterStages : Obligations.FilterStages := by
  intro c f a
  obtain ⟨hl1, hl2⟩ := filterSide_base c (f.ledActive || f.ledForced) f.left a.l
  obtain ⟨hr1, hr2⟩ := filterSide_base c (f.ledActive || f.ledForced) f.right a.r
  refine ⟨⟨hl1, hr1⟩, ⟨hl2, hr2⟩, ⟨rfl, rfl⟩, ?ledOff, ?ledOn⟩
  case ledOff =>
    rintro ⟨hactive, hforced⟩
    have hled : (f.ledActive || f.ledForced) = false := by rw [hactive, hforced, Bool.or_false]
    obtain ⟨hlout, hl3, hl4⟩ := filterSide_ledOff c f.left a.l
    obtain ⟨hrout, hr3, hr4⟩ := filterSide_ledOff c f.right a.r
    rw [filterSample_of_led hled]
    exact ⟨congrArg₂ Frame.mk hlout hrout, hl3, hl4, hr3, hr4⟩
  case ledOn =>
    intro hflag
    have hled : (f.ledActive || f.ledForced) = true := (Bool.or_eq_true _ _).mpr hflag
    obtain ⟨hl3, hl4, hlout⟩ := filterSide_ledOn c f.left a.l
    obtain ⟨hr3, hr4, hrout⟩ := filterSide_ledOn c f.right a.r
    rw [filterSample_of_led hled]
    exact ⟨hl3, hl4, hr3, hr4, congrArg₂ Frame.mk hlout hrout⟩

end Sys2Proof.Machine

/-! RENDER's checks one at a time (R452), and the obligation O18. -/

namespace Sys2Proof.Machine

/-! ### The first failing check -/

/-- A check that fails decides, whatever stands after it. -/
theorem firstError_of_fails {failed : Bool} (st : Status) (rest : List (Bool × Status)) (h : failed = true) :
    firstError ((failed, st) :: rest) = some st :=
  if_pos h

/-- A check that passes leaves the decision to the checks after it. -/
theorem firstError_of_passes {failed : Bool} (st : Status) (rest : List (Bool × Status)) (h : failed = false) :
    firstError ((failed, st) :: rest) = firstError rest :=
  if_neg (Bool.not_eq_true failed ▸ h)

/-! ### RENDER's refusals -/

theorem exec_render_refuses {s : State} {d : Word} {st : Status} (h : firstError (renderChecks d.toNat s) = some st) :
    exec (.render d) s = .next (s.refuseWith st) :=
  guarded_refuses h

/-- Settles O18: each check is reached when those before it pass, and decides when it fails. -/
theorem renderChecksInOrder : Obligations.RenderChecksInOrder := by
  intro s d hfault
  refine ⟨fun hpending => exec_render_refuses ?busy, fun hpending =>
    ⟨fun hidle => exec_render_refuses ?notInitialized, fun hidle =>
      ⟨fun hchunk => exec_render_refuses ?chunkOverflow, fun hchunk hleft => exec_render_refuses ?undrained⟩⟩⟩
  all_goals rw [renderChecks, firstError_of_passes _ _ hfault]
  case busy => exact firstError_of_fails _ _ hpending
  all_goals rw [firstError_of_passes _ _ hpending]
  case notInitialized => exact firstError_of_fails _ _ (beq_iff_eq.mpr hidle)
  all_goals rw [firstError_of_passes _ _ (beq_eq_false_iff_ne.mpr hidle)]
  case chunkOverflow => exact firstError_of_fails _ _ (decide_eq_true hchunk)
  case undrained =>
    rw [firstError_of_passes _ _ (decide_eq_false (Nat.not_lt.mpr hchunk))]
    exact firstError_of_fails _ _ (decide_eq_true hleft)

end Sys2Proof.Machine

/-! How every command ends (R145, R600, R605), and the obligation O8. -/

namespace Sys2Proof.Machine

/-- How a command that starts in `s` can end: refused with no effect (R600), carried through to OK or to a tick request (R145, R611),
with a fault raised where none was set (R605), or in the model's own stop. -/
inductive Ends (s : State) : Answer → Prop where
  | refused (st : Status) : Ends s (.next (s.refuseWith st))
  | done {t : State} {st : Status} (w : Word) (hst : st = .ok ∨ st = .tick)
      (hresults : t.port.results = s.port.results ++ [⟨st, w⟩]) : Ends s (.next t)
  | raised {t : State} (hfault : s.flr.fault = false) (hresults : t.port.results = s.port.results ++ [⟨.faulted, 0⟩]) :
      Ends s (.next t)
  | stopped (f : Fault) : Ends s (.fault f)

section
variable {s t : State}

/-! ### The shared operations -/

/-- An `OK` from a state that has returned no result since `s`. -/
theorem ends_reply_ok (w : Word) (hresults : t.port.results = s.port.results) : Ends s (.next (t.reply .ok w)) :=
  .done w (.inl rfl) (by rw [reply_port, hresults])

/-- Failing checks refuse; so only what a command does behind its checks needs a look. -/
theorem ends_guarded {checks : List (Bool × Status)} {act : Answer} (hact : (∀ c ∈ checks, c.1 = false) → Ends s act) :
    Ends s (guarded checks s act) := by
  rcases guarded_cases (s := s) checks act with ⟨st, -, h⟩ | ⟨hpass, h⟩
  · rw [h]
    exact .refused st
  · rw [h]
    exact hact hpass

theorem ends_fpWrite {α : Type} (v : BitVec 8) (operand : Option α) (f : α → FpVoice → FpVoice) (s : State) :
    Ends s (fpWrite v operand f s) := by
  rcases fpWrite_cases (s := s) v operand f with ⟨st, -, h⟩ | ⟨-, -, -, x, -, h⟩
  · exact h ▸ .refused st
  · exact h ▸ ends_reply_ok 0 rfl

theorem ends_vrWrite {α : Type} (v : BitVec 8) (operand : Option α) (f : α → VrVoice → VrVoice) (s : State) :
    Ends s (vrWrite v operand f s) := by
  rcases vrWrite_cases (s := s) v operand f with ⟨st, -, h⟩ | ⟨-, -, -, x, -, h⟩
  · exact h ▸ .refused st
  · exact h ▸ ends_reply_ok 0 rfl

/-! ### The render pass -/

/-- The end of Run's loop is the end of the pass or a tick request (R455). -/
theorem ends_afterSegment (hport : t.port = s.port) : Ends s (.next (afterSegment t)) := by
  unfold afterSegment atBoundary
  split
  · split
    · exact .done _ (.inl rfl) (by rw [endPass_port, hport])
    · exact .done _ (.inr rfl) (by rw [tickEntry_port, hport])
  · exact .done _ (.inl rfl) (by rw [endPass_port, hport])

/-- Outside the fault state a mixing that stops raises a fault. -/
theorem ends_stopMixing (e : MixStop) (hport : t.port = s.port) (hfault : s.flr.fault = false) : Ends s (stopMixing e t) := by
  rcases stopMixing_cases (s := t) e with ⟨a, -, h⟩ | ⟨-, h⟩
  · exact h ▸ .raised hfault (by simp [hport])
  · exact h ▸ .stopped _

theorem mixSegment_port {i0 seg : Nat} {e : Option MixStop} {u : State} (h : mixSegment i0 seg t = (u, e)) : u.port = t.port := by
  obtain ⟨-, -, -, -, -, -, -, -, -, hport, -⟩ := mixSegment_frame i0 seg t
  rwa [h] at hport

theorem ends_run (hport : t.port = s.port) (hfault : s.flr.fault = false) : Ends s (run t) := by
  rcases run_cases t with ⟨-, h⟩ | ⟨-, -, ⟨u, hmix, h⟩ | ⟨u, e, hmix, h⟩⟩
  · exact h ▸ ends_afterSegment hport
  · exact h ▸ ends_afterSegment ((mixSegment_port hmix).trans hport)
  · exact h ▸ ends_stopMixing e ((mixSegment_port hmix).trans hport) hfault

/-! ### The commands -/

theorem ends_execRender (d : Word) (s : State) : Ends s (execRender d s) :=
  ends_guarded fun hpass => ends_run rfl (hpass (s.flr.fault, .faulted) (by simp [renderChecks]))

theorem ends_execTickdone (d : Word) (s : State) : Ends s (execTickdone d s) := by
  refine ends_guarded fun hpass => ?_
  split
  next e _ => exact ends_run (tickReturn_port s e) (hpass (s.flr.fault, .faulted) (by simp))
  · exact .refused .badValue

/-- DRAIN's fault check passes before its NaN check can raise a fault (R501, R506). -/
theorem ends_execDrain (d : Word) (s : State) : Ends s (execDrain d s) := by
  refine ends_guarded fun hpass => ?_
  split
  · exact .raised (hpass (s.flr.fault, .faulted) (by simp)) (by simp)
  · exact ends_reply_ok _ rfl

/-- Every command ends in one of the four ways, from every state. -/
theorem ends_exec (i : Instr) (s : State) : Ends s (exec i s) := by
  unfold exec
  cases i with
  | reset d => exact ends_reply_ok 0 rfl
  | render d => exact ends_execRender d s
  | tickdone d => exact ends_execTickdone d s
  | drain d => exact ends_execDrain d s
  | init d | setsink d | store d | status d => exact ends_guarded fun _ => ends_reply_ok _ rfl
  | settempo d | setspeed d | setloop d | setled d | read d =>
    refine ends_guarded fun _ => ?_
    split
    · exact ends_reply_ok _ rfl
    · exact .refused .badValue
  | fpEnable v d | fpPeriod v d | fpVolume v d | fpPointer v d | fpLength v d | fpLoopPointer v d | fpLoopLength v d
  | fpMute v d | fpPanning v d => exact ends_fpWrite ..
  | vrEnable v d | vrSpeed v d | vrDirection v d | vrFraction v d | vrVolume v d | vrPanning v d | vrPointer v d | vrLength v d
  | vrLoopStart v d | vrLoopLength v d | vrLoopMode v d | vrMute v d | vrNextBase v d | vrNextLength v d | vrNextLoopStart v d
  | vrNextLoopLength v d | vrNextLoopMode v d | vrTrigger v d => exact ends_vrWrite ..

/-! ### A command that ended with an error status -/

/-- Two accounts of the one result a command returned agree. -/
theorem result_unique {rs : List Result} {st st' : Status} {w w' : Word} (h : rs ++ [⟨st, w⟩] = rs ++ [⟨st', w'⟩]) :
    st = st' ∧ w = w' := by
  simpa using h

/-- An error status, other than that of a fault just raised, tells that the command was refused (R600). -/
theorem Ends.refused_of_error {st : Status} {w : Word} (h : Ends s (.next t))
    (hresults : t.port.results = s.port.results ++ [⟨st, w⟩]) (hok : st ≠ .ok) (htick : st ≠ .tick)
    (hfaulted : st = .faulted → s.flr.fault = true) : w = 0 ∧ t = s.refuseWith st := by
  cases h with
  | refused st' =>
    obtain ⟨rfl, rfl⟩ := result_unique hresults
    exact ⟨rfl, rfl⟩
  | done w' hst hdone =>
    obtain ⟨rfl, -⟩ := result_unique (hresults.symm.trans hdone)
    exact absurd hst (not_or.mpr ⟨hok, htick⟩)
  | raised hfault hraised =>
    obtain ⟨rfl, -⟩ := result_unique (hresults.symm.trans hraised)
    exact absurd (hfaulted rfl) (Bool.eq_false_iff.mp hfault)

/-- A step that takes a command ends as one of its four ways allows, counted from the state that has taken it. -/
theorem ends_step {c : Command} {rest : List Command} (hinbox : s.port.inbox = c :: rest) :
    Ends (s.takeCommand c rest) (step s) := by
  unfold step
  rw [hinbox]
  dsimp only
  split
  · exact .refused .illegal
  next i _ => exact ends_exec i _

end

/-- Settles O8: of the ways a command can end, only a refusal returns such a status, and a refusal keeps the block's state. -/
theorem errorStatusChangesNothing : Obligations.ErrorStatusChangesNothing := by
  intro s t c rest st w hinbox hstep hresults hok htick hfaulted
  have hends : Ends (s.takeCommand c rest) (.next t) := hstep ▸ ends_step hinbox
  exact hends.refused_of_error hresults hok htick hfaulted

end Sys2Proof.Machine

/-! Decoding and encoding are inverse to each other (R140, R143, R146, R147), also through the serialised form (R106), and the
obligations O1, O2, O4 and O7. -/

namespace Sys2Proof.Machine

/-! ### From a command to its pair and back -/

theorem decodePair_cmdWord_control {op : Nat} {make : Word → Instr} (hop : op < 256) (hrow : opRow op = some (.control make))
    (d : Word) : decodePair (cmdWord op 0) d = .ok (make d) := by
  rw [decodePair, cmdOp_cmdWord op 0 hop, hrow]
  simp [cmdRsv_cmdWord, cmdVoice_cmdWord]

theorem decodePair_cmdWord_voice {op : Nat} {make : BitVec 8 → Word → Instr} (hop : op < 256)
    (hrow : opRow op = some (.voice make)) (v : BitVec 8) (d : Word) : decodePair (cmdWord op v) d = .ok (make v d) := by
  rw [decodePair, cmdOp_cmdWord op v hop, hrow]
  simp [cmdRsv_cmdWord, cmdVoice_cmdWord]

/-- Every command's row of the table reads its own encoding back (R146, R147). -/
theorem decodePair_encode (i : Instr) : decodePair (encode i).1 (encode i).2 = .ok i := by
  cases i with
  | reset d | init d | render d | tickdone d | drain d | setsink d | store d | settempo d | setspeed d | setloop d | setled d
  | status d | read d => exact decodePair_cmdWord_control (by decide) rfl d
  | fpEnable v d | fpPeriod v d | fpVolume v d | fpPointer v d | fpLength v d | fpLoopPointer v d | fpLoopLength v d
  | fpMute v d | fpPanning v d | vrEnable v d | vrSpeed v d | vrDirection v d | vrFraction v d | vrVolume v d | vrPanning v d
  | vrPointer v d | vrLength v d | vrLoopStart v d | vrLoopLength v d | vrLoopMode v d | vrMute v d | vrNextBase v d
  | vrNextLength v d | vrNextLoopStart v d | vrNextLoopLength v d | vrNextLoopMode v d | vrTrigger v d =>
    exact decodePair_cmdWord_voice (by decide) rfl v d

theorem decode_encode {b : Backend} {i : Instr} (h : i.onBackend b = true) : decode b (encode i).1 (encode i).2 = .ok i := by
  rw [decode, decodePair_encode]
  exact if_pos h

/-! ### From a pair to its command and back -/

section
variable {b : Backend} {cmd data : Word} {i : Instr}

/-- A pair that decodes has passed the checks of R143: a row of the table, no reserved bits, no voice on a control command and no
voice command of the other backend. -/
theorem decode_ok_checks (h : decode b cmd data = .ok i) :
    cmdRsv cmd = 0 ∧ ((ControlOpcode (cmdOp cmd) ∧ cmdVoice cmd = 0#8) ∨ VoiceOpcode b (cmdOp cmd)) := by
  have hop : ControlOpcode (cmdOp cmd) ∨ VoiceOpcode .fp (cmdOp cmd) ∨ VoiceOpcode .vr (cmdOp cmd) := by
    by_contra hno
    rw [decode_unknown_opcode (opRow_none hno)] at h
    cases h
  have hrsv : cmdRsv cmd = 0 := by
    by_contra hno
    obtain ⟨row, hrow⟩ := opRow_some hop
    rw [decode_reserved hrow hno] at h
    cases h
  have hvoice {b' : Backend} (hb' : VoiceOpcode b' (cmdOp cmd)) : VoiceOpcode b (cmdOp cmd) := by
    by_cases hbb : b' = b
    · exact hbb ▸ hb'
    · rw [decode_other_backend hb' hrsv hbb] at h
      cases h
  refine ⟨hrsv, ?_⟩
  rcases hop with hcontrol | hfp | hvr
  · refine .inl ⟨hcontrol, ?_⟩
    by_contra hno
    rw [decode_control_with_voice hcontrol hrsv hno] at h
    cases h
  · exact .inr (hvoice hfp)
  · exact .inr (hvoice hvr)

theorem encode_of_decode (h : decode b cmd data = .ok i) : encode i = (cmd, data) := by
  have hsame : ∃ j, decode b cmd data = .ok j ∧ encode j = (cmd, data) := by
    obtain ⟨hrsv, ⟨hcontrol, hv⟩ | hvoice⟩ := decode_ok_checks h
    · exact decode_control hcontrol hrsv hv
    · exact decode_voice hvoice hrsv
  obtain ⟨j, hj, hencode⟩ := hsame
  rw [h] at hj
  cases hj
  exact hencode

end

/-! ### The serialised form (R106) -/

theorem wordOfBytes_wordBytes (w : Word) :
    wordOfBytes (w.extractLsb' 0 8) (w.extractLsb' 8 8) (w.extractLsb' 16 8) (w.extractLsb' 24 8) = w := by
  apply BitVec.eq_of_getLsbD_eq
  intro k hk
  simp only [wordOfBytes, BitVec.getLsbD_append, BitVec.getLsbD_extractLsb']
  grind

theorem decodeBytes_encodeBytes (i : Instr) (rest : List Byte) : decodeBytes (encodeBytes i ++ rest) = .ok (i, rest) := by
  simp only [encodeBytes, wordBytes, List.cons_append, List.nil_append, decodeBytes, wordOfBytes_wordBytes, decodePair_encode]

/-! ### The obligations -/

/-- Settles O1: a command's own row decodes its encoding, and a pair that passes R143's checks is what its command encodes to. -/
theorem decodeAndEncodeAgree : Obligations.DecodeAndEncodeAgree :=
  ⟨fun _ _ h => decode_encode h, fun _ _ _ _ h => ⟨encode_of_decode h, onBackend_of_decode h⟩⟩

/-- Settles O2: four bytes put back together are the word they were cut from. -/
theorem serialisedCommandReadsBack : Obligations.SerialisedCommandReadsBack :=
  fun i rest => ⟨decodeBytes_encodeBytes i rest, rfl⟩

/-- Settles O4: the decoder run on each of the words. -/
theorem specWordsDecode : Obligations.SpecWordsDecode := by
  unfold Obligations.SpecWordsDecode
  decide

/-- Settles O7: the three cases of the inbox and the decoder. -/
theorem stepRunsDecodedCommand : Obligations.StepRunsDecodedCommand := by
  refine ⟨fun s c rest i hinbox hdecode => ?_, fun s c rest e hinbox hdecode => ?_, fun s hinbox => ?_⟩
  · simp only [step, hinbox, hdecode, State.takeCommand]
  · simp only [step, hinbox, hdecode, State.takeCommand, State.refuseWith, State.reply]
    rfl
  · simp only [step, hinbox]

end Sys2Proof.Machine

/-! Resolve by the overshoot of a stream (R321, R332), and the obligation O47. -/

namespace Sys2Proof.Machine

section
variable {t : Stream}

/-! ### The cases of Resolve -/

theorem looped_iff (t : Stream) : t.looped = true ↔ t.loopMode ≠ .noLoop ∧ t.loopLength ≠ 0 := by
  simp [Stream.looped]

theorem resolve_of_not_looped (h : t.looped = false) :
    resolve t = (t, decide (t.pointer < 0) || decide ((t.length : Int) ≤ t.pointer)) := by
  simp [resolve, h]

theorem resolve_of_forward (h : t.looped = true) (hmode : t.loopMode = .forward) :
    resolve t = ({ t with pointer := wrapForward t t.pointer }, false) := by
  simp [resolve, h, hmode]

theorem resolve_of_pingpong (h : t.looped = true) (hmode : t.loopMode = .pingpong) :
    resolve t = ({ t with pointer := (reflect t t.pointer).1, direction := (reflect t t.pointer).2 }, false) := by
  simp [resolve, h, hmode]

/-- A looped stream runs forward or in ping-pong (R53, R54). -/
theorem loopMode_of_looped (h : t.looped = true) : t.loopMode = .forward ∨ t.loopMode = .pingpong := by
  have hmode := ((looped_iff t).mp h).1
  cases hm : t.loopMode <;> simp_all

theorem resolve_keeps (t : Stream) :
    (resolve t).1 = { t with pointer := (resolve t).1.pointer, direction := (resolve t).1.direction } := by
  unfold resolve
  split
  · rfl
  · split <;> rfl

/-! ### The overshoot decides -/

theorem overshoot_eq_zero_iff (t : Stream) :
    t.overshoot = 0 ↔
      ¬((t.direction = .ahead ∧ (t.loopEnd : Int) ≤ t.pointer) ∨ (t.direction = .backward ∧ t.pointer < (t.loopStart : Int))) := by
  unfold Stream.overshoot
  cases t.direction <;> simp
  omega

theorem playable_iff_overshoot (h : t.looped = true) : t.Playable ↔ t.overshoot = 0 := by
  rw [overshoot_eq_zero_iff]
  cases hd : t.direction <;> simp [Stream.Playable, h, hd]

theorem wrapForward_of_overshoot_eq_zero (h : t.overshoot = 0) : wrapForward t t.pointer = t.pointer := by
  unfold Stream.overshoot at h
  unfold wrapForward
  cases hd : t.direction <;> simp [hd] at h ⊢ <;> omega

/-- Past the loop, the forward wrap lands inside it, a whole number of loop lengths away (R321). -/
theorem wrapForward_lands (hlen : 0 < t.loopLength) (h : 0 < t.overshoot) :
    (t.loopStart : Int) ≤ wrapForward t t.pointer ∧ wrapForward t t.pointer < t.loopEnd ∧
      ∃ n : Int, wrapForward t t.pointer = t.pointer + n * t.loopLength := by
  have hne : (t.loopLength : Int) ≠ 0 := by omega
  have hpos : (0 : Int) < t.loopLength := by omega
  have hend : (t.loopEnd : Int) = t.loopStart + t.loopLength := by simp [Stream.loopEnd]
  unfold Stream.overshoot at h
  unfold wrapForward
  cases hd : t.direction with
  | still => simp [hd] at h
  | ahead =>
    simp only [hd] at h ⊢
    rw [if_pos (by omega)]
    have hlo := Int.emod_nonneg (t.pointer - t.loopEnd) hne
    have hhi := Int.emod_lt_of_pos (t.pointer - t.loopEnd) hpos
    have hdiv := Int.emod_add_mul_ediv (t.pointer - t.loopEnd) t.loopLength
    exact ⟨by omega, by omega, -1 - (t.pointer - t.loopEnd) / t.loopLength, by linarith⟩
  | backward =>
    simp only [hd] at h ⊢
    rw [if_pos (by omega)]
    have hlo := Int.emod_nonneg (t.loopStart - 1 - t.pointer) hne
    have hhi := Int.emod_lt_of_pos (t.loopStart - 1 - t.pointer) hpos
    have hdiv := Int.emod_add_mul_ediv (t.loopStart - 1 - t.pointer) t.loopLength
    exact ⟨by omega, by omega, 1 + (t.loopStart - 1 - t.pointer) / t.loopLength, by linarith⟩

/-- Past the loop, the reflections land inside it (R332). -/
theorem reflect_lands (hlen : 0 < t.loopLength) (h : 0 < t.overshoot) :
    (t.loopStart : Int) ≤ (reflect t t.pointer).1 ∧ (reflect t t.pointer).1 < t.loopEnd := by
  obtain ⟨e, he⟩ := Nat.exists_eq_add_one.mpr h
  have hend : (t.loopEnd : Int) = t.loopStart + t.loopLength := by simp [Stream.loopEnd]
  have hlo := Int.emod_nonneg (e : Int) (show (2 * t.loopLength : Int) ≠ 0 by omega)
  have hhi := Int.emod_lt_of_pos (e : Int) (show (0 : Int) < 2 * t.loopLength by omega)
  cases hd : t.direction with
  | still => simp [Stream.overshoot, hd] at h
  | ahead =>
    rw [reflect_of_ahead hd he]
    split <;> dsimp only <;> omega
  | backward =>
    rw [reflect_of_backward hd he]
    split <;> dsimp only <;> omega

/-- A looped stream that is not past its loop stays as it is. -/
theorem resolve_of_overshoot_eq_zero (h : t.looped = true) (hover : t.overshoot = 0) : resolve t = (t, false) := by
  rcases loopMode_of_looped h with hmode | hmode
  · rw [resolve_of_forward h hmode, wrapForward_of_overshoot_eq_zero hover]
  · rw [resolve_of_pingpong h hmode, reflect_of_overshoot_eq_zero hover]

theorem resolve_looped_goes_on (h : t.looped = true) : (resolve t).2 = false := by
  rcases loopMode_of_looped h with hmode | hmode
  · rw [resolve_of_forward h hmode]
  · rw [resolve_of_pingpong h hmode]

/-- A looped stream that is past its loop lands inside it. -/
theorem resolve_lands (h : t.looped = true) (hover : 0 < t.overshoot) :
    (t.loopStart : Int) ≤ (resolve t).1.pointer ∧ (resolve t).1.pointer < t.loopEnd := by
  have hlen : 0 < t.loopLength := Nat.pos_of_ne_zero ((looped_iff t).mp h).2
  rcases loopMode_of_looped h with hmode | hmode
  · rw [resolve_of_forward h hmode]
    obtain ⟨hlo, hhi, -⟩ := wrapForward_lands hlen hover
    exact ⟨hlo, hhi⟩
  · rw [resolve_of_pingpong h hmode]
    exact reflect_lands hlen hover

/-! ### What Resolve leaves -/

@[simp] theorem resolve_looped (t : Stream) : (resolve t).1.looped = t.looped := by rw [resolve_keeps]; rfl

theorem resolve_looped_playable (h : t.looped = true) : (resolve t).1.Playable := by
  rcases Nat.eq_zero_or_pos t.overshoot with hover | hover
  · rw [resolve_of_overshoot_eq_zero h hover]
    exact (playable_iff_overshoot h).mpr hover
  · obtain ⟨hlo, hhi⟩ := resolve_lands h hover
    rw [resolve_keeps] at hlo hhi ⊢
    exact ⟨fun hno => absurd (h.symm.trans hno) (by decide), fun _ => ⟨fun _ => hhi, fun _ => hlo⟩⟩

/-- A stream that Resolve does not stop is playable (R321). -/
theorem resolve_playable (h : (resolve t).2 = false) : (resolve t).1.Playable := by
  cases hl : t.looped with
  | true => exact resolve_looped_playable hl
  | false =>
    rw [resolve_of_not_looped hl] at h ⊢
    simp only [Bool.or_eq_false_iff, decide_eq_false_iff_not, not_lt, not_le] at h
    exact ⟨fun _ => h, fun hyes => absurd (hl.symm.trans hyes) (by decide)⟩

/-- Resolve leaves the position, or brings it into the loop. -/
theorem resolve_pointer (t : Stream) :
    (resolve t).1.pointer = t.pointer ∨ ((t.loopStart : Int) ≤ (resolve t).1.pointer ∧ (resolve t).1.pointer < t.loopEnd) := by
  cases hl : t.looped with
  | false => exact .inl (by rw [resolve_of_not_looped hl])
  | true =>
    rcases Nat.eq_zero_or_pos t.overshoot with hover | hover
    · exact .inl (by rw [resolve_of_overshoot_eq_zero hl hover])
    · exact .inr (resolve_lands hl hover)

theorem resolve_again (h : (resolve t).2 = false) : resolve (resolve t).1 = ((resolve t).1, false) := by
  cases hl : t.looped with
  | false =>
    rw [resolve_of_not_looped hl] at h ⊢
    simp only at h ⊢
    rw [resolve_of_not_looped hl, h]
  | true =>
    have hlooped : (resolve t).1.looped = true := (resolve_looped t).trans hl
    exact resolve_of_overshoot_eq_zero hlooped ((playable_iff_overshoot hlooped).mp (resolve_looped_playable hl))

end

/-- Settles O47: by whether the stream is looped, and by its overshoot when it is. -/
theorem resolveLandsInRange : Obligations.ResolveLandsInRange := by
  intro t
  refine ⟨resolve_keeps t, fun hl => ?notLooped, fun hl => ?looped, fun hl hmode => ?forward, fun hl hmode => ?pingpong,
    resolve_again⟩
  case notLooped => simp [resolve_of_not_looped hl]
  case looped =>
    refine ⟨resolve_looped_goes_on hl, resolve_looped_playable hl, fun hpast => resolve_lands hl ?_, fun hpast => ?_⟩
    · exact Nat.pos_of_ne_zero fun hzero => (overshoot_eq_zero_iff t).mp hzero hpast
    · rw [resolve_of_overshoot_eq_zero hl ((overshoot_eq_zero_iff t).mpr hpast)]
  case forward =>
    rw [resolve_of_forward hl hmode]
    refine ⟨rfl, ?_⟩
    rcases Nat.eq_zero_or_pos t.overshoot with hover | hover
    · exact ⟨0, by simp [wrapForward_of_overshoot_eq_zero hover]⟩
    · exact (wrapForward_lands (Nat.pos_of_ne_zero ((looped_iff t).mp hl).2) hover).2.2
  case pingpong => rw [resolve_of_pingpong hl hmode]

end Sys2Proof.Machine

/-! Mixing one list of frames after another (R210, R320, R402), what MixSegment is on each backend (R454), and the obligations O53
and O54. -/

namespace Sys2Proof.Machine

section
variable {V : Type} (f : V → Frame → Mixed V Frame)

/-! ### Voices over frames -/

theorem mixVoices_cons_go (v : V) (vs : List V) (as : List Frame) (h : (mixVoice f v as).stop = none) :
    mixVoices f (v :: vs) as =
      ⟨(mixVoice f v as).voices :: (mixVoices f vs (mixVoice f v as).frames).voices,
        (mixVoices f vs (mixVoice f v as).frames).frames, (mixVoices f vs (mixVoice f v as).frames).stop⟩ := by
  simp [mixVoices, h]

theorem mixVoices_cons_stop (v : V) (vs : List V) (as : List Frame) (e : MixStop) (h : (mixVoice f v as).stop = some e) :
    mixVoices f (v :: vs) as = ⟨(mixVoice f v as).voices :: vs, (mixVoice f v as).frames, some e⟩ := by
  simp [mixVoices, h]

theorem mixVoice_stop_of_mixVoices {v : V} {vs : List V} {as : List Frame} (h : (mixVoices f (v :: vs) as).stop = none) :
    (mixVoice f v as).stop = none := by
  cases hs : (mixVoice f v as).stop with
  | none => rfl
  | some e => rw [mixVoices_cons_stop f v vs as e hs] at h; cases h

/-- A voice that mixes two lists of frames without a stop mixes the first and then, from where that left it, the second. -/
theorem mixVoice_append {v : V} {as bs : List Frame} (h : (mixVoice f v (as ++ bs)).stop = none) :
    (mixVoice f v as).stop = none ∧
      mixVoice f v (as ++ bs) =
        ⟨(mixVoice f (mixVoice f v as).voices bs).voices, (mixVoice f v as).frames ++ (mixVoice f (mixVoice f v as).voices bs).frames,
          (mixVoice f (mixVoice f v as).voices bs).stop⟩ := by
  induction as generalizing v with
  | nil => exact ⟨rfl, rfl⟩
  | cons a as ih =>
    rw [List.cons_append] at h ⊢
    cases hs : (f v a).stop with
    | some e => rw [mixVoice_cons_stop f v a _ e hs] at h; cases h
    | none =>
      rw [mixVoice_cons_go f v a (as ++ bs) hs] at h ⊢
      rw [mixVoice_cons_go f v a as hs]
      obtain ⟨hgo, heq⟩ := ih h
      exact ⟨hgo, by rw [heq]; rfl⟩

/-- The same for all voices, each over the frames the voice before left. -/
theorem mixVoices_append {vs : List V} {as bs : List Frame} (h : (mixVoices f vs (as ++ bs)).stop = none) :
    (mixVoices f vs as).stop = none ∧
      mixVoices f vs (as ++ bs) =
        ⟨(mixVoices f (mixVoices f vs as).voices bs).voices,
          (mixVoices f vs as).frames ++ (mixVoices f (mixVoices f vs as).voices bs).frames,
          (mixVoices f (mixVoices f vs as).voices bs).stop⟩ := by
  induction vs generalizing as bs with
  | nil => exact ⟨rfl, rfl⟩
  | cons v vs ih =>
    have hv := mixVoice_stop_of_mixVoices f h
    obtain ⟨hva, hsplit⟩ := mixVoice_append f hv
    have hvb : (mixVoice f (mixVoice f v as).voices bs).stop = none := by rw [hsplit] at hv; exact hv
    rw [mixVoices_cons_go f v vs _ hv, hsplit] at h ⊢
    obtain ⟨hgo, heq⟩ := ih h
    rw [mixVoices_cons_go f v vs as hva, mixVoices_cons_go f _ _ bs hvb]
    exact ⟨hgo, by rw [heq]⟩

/-- One frame, voice by voice: the inner loop of the sample-major nesting. -/
theorem mixVoices_singleton {vs : List V} {a : Frame} (h : (mixVoices f vs [a]).stop = none) :
    mixVoices f vs [a] = ⟨(mixFrame f vs a).voices, [(mixFrame f vs a).frames], (mixFrame f vs a).stop⟩ := by
  induction vs generalizing a with
  | nil => rfl
  | cons v vs ih =>
    have hv := mixVoice_stop_of_mixVoices f h
    cases hs : (f v a).stop with
    | some e => rw [mixVoice_cons_stop f v a [] e hs] at hv; cases hv
    | none =>
      have hone : mixVoice f v [a] = ⟨(f v a).voices, [(f v a).frames], none⟩ := by rw [mixVoice_cons_go f v a [] hs]; rfl
      rw [mixVoices_cons_go f v vs _ hv, hone] at h ⊢
      rw [ih h]
      simp [mixFrame, hs]

theorem mixVoices_nil_frames (vs : List V) : mixVoices f vs [] = ⟨vs, [], none⟩ := by
  induction vs with
  | nil => rfl
  | cons v vs ih => rw [mixVoices_cons_go f v vs [] rfl, mixVoice_nil, ih]

/-- Without a stop the two nestings agree (R210, R320). -/
theorem mixVoices_eq_mixSampleMajor {vs : List V} {as : List Frame} (h : (mixVoices f vs as).stop = none) :
    mixVoices f vs as = mixSampleMajor f vs as := by
  induction as generalizing vs with
  | nil =>
    rw [mixVoices_nil_frames]
    rfl
  | cons a as ih =>
    obtain ⟨hone, hsplit⟩ := mixVoices_append f (as := [a]) (bs := as) h
    rw [List.singleton_append] at hsplit
    have hrest : (mixVoices f (mixVoices f vs [a]).voices as).stop = none := by rw [hsplit] at h; exact h
    have hframe := mixVoices_singleton f hone
    have hgo : (mixFrame f vs a).stop = none := by rw [hframe] at hone; exact hone
    rw [hsplit, ih hrest, hframe]
    simp [mixSampleMajor, hgo]

end

/-! ### The filter over frames -/

theorem filterFrames_append (c : Config) (flt : Filter) (as bs : List Frame) :
    filterFrames c flt (as ++ bs) =
      ((filterFrames c (filterFrames c flt as).1 bs).1, (filterFrames c flt as).2 ++ (filterFrames c (filterFrames c flt as).1 bs).2) := by
  induction as generalizing flt with
  | nil => rfl
  | cons a as ih => simp [filterFrames, ih]

theorem filterFrames_fst (c : Config) (flt : Filter) (as : List Frame) :
    (filterFrames c flt as).1 = as.foldl (fun g a => (filterSample c g a).1) flt := by
  induction as generalizing flt with
  | nil => rfl
  | cons a as ih => simp [filterFrames, ih]

/-- Each frame is filtered from the histories that the frames before it left. -/
theorem filterFrames_getElem? (c : Config) (flt : Filter) (as : List Frame) (j : Nat) :
    (filterFrames c flt as).2[j]? =
      (as[j]?).map fun a => (filterSample c ((as.take j).foldl (fun g a => (filterSample c g a).1) flt) a).2 := by
  induction as generalizing flt j with
  | nil => rfl
  | cons a as ih =>
    cases j with
    | zero => rfl
    | succ j => simp [filterFrames, ih]

/-! ### MixSegment (R454) -/

section
variable {s : State} {i0 seg : Nat}

theorem mixSegment_of_fp (h : s.cfg.backend = .fp) (i0 seg : Nat) : mixSegment i0 seg s = mixSegmentFp i0 seg s := by
  simp [mixSegment, h]

theorem mixSegment_of_vr (h : s.cfg.backend = .vr) (i0 seg : Nat) : mixSegment i0 seg s = mixSegmentVr i0 seg s := by
  simp [mixSegment, h]

theorem mixSegmentFp_of_stop {e : MixStop}
    (h : (mixVoices (fpVoiceSample s.cfg s.arena) s.fp (framesAt s.acc i0 seg)).stop = some e) :
    mixSegmentFp i0 seg s =
      ({ s with
          fp := (mixVoices (fpVoiceSample s.cfg s.arena) s.fp (framesAt s.acc i0 seg)).voices
          acc := putFrames s.acc i0 seg (mixVoices (fpVoiceSample s.cfg s.arena) s.fp (framesAt s.acc i0 seg)).frames },
        some e) := by
  simp [mixSegmentFp, h]

theorem mixSegmentFp_of_go (h : (mixVoices (fpVoiceSample s.cfg s.arena) s.fp (framesAt s.acc i0 seg)).stop = none) :
    mixSegmentFp i0 seg s =
      ({ s with
          fp := (mixVoices (fpVoiceSample s.cfg s.arena) s.fp (framesAt s.acc i0 seg)).voices
          flt :=
            (filterFrames s.cfg s.flt (mixVoices (fpVoiceSample s.cfg s.arena) s.fp (framesAt s.acc i0 seg)).frames).1
          acc :=
            putFrames s.acc i0 seg
              (filterFrames s.cfg s.flt (mixVoices (fpVoiceSample s.cfg s.arena) s.fp (framesAt s.acc i0 seg)).frames).2 },
        none) := by
  simp [mixSegmentFp, h]

/-- A fault of the voices is the segment's. -/
theorem mixSegmentFp_stop (i0 seg : Nat) (s : State) :
    (mixSegmentFp i0 seg s).2 = (mixVoices (fpVoiceSample s.cfg s.arena) s.fp (framesAt s.acc i0 seg)).stop := by
  cases h : (mixVoices (fpVoiceSample s.cfg s.arena) s.fp (framesAt s.acc i0 seg)).stop with
  | none => rw [mixSegmentFp_of_go h]
  | some e => rw [mixSegmentFp_of_stop h]

theorem mixSegmentFp_fp (i0 seg : Nat) (s : State) :
    (mixSegmentFp i0 seg s).1.fp = (mixVoices (fpVoiceSample s.cfg s.arena) s.fp (framesAt s.acc i0 seg)).voices := by
  cases h : (mixVoices (fpVoiceSample s.cfg s.arena) s.fp (framesAt s.acc i0 seg)).stop with
  | none => rw [mixSegmentFp_of_go h]
  | some e => rw [mixSegmentFp_of_stop h]

/-- On the fixed-period backend the variable-rate bank is not touched, on the other the fixed-period bank and the filter. -/
theorem mixSegmentFp_vr (i0 seg : Nat) (s : State) : (mixSegmentFp i0 seg s).1.vr = s.vr := by
  cases h : (mixVoices (fpVoiceSample s.cfg s.arena) s.fp (framesAt s.acc i0 seg)).stop with
  | none => rw [mixSegmentFp_of_go h]
  | some e => rw [mixSegmentFp_of_stop h]

/-- MixSegment replaces the entries of its segment by as many frames. -/
theorem mixSegment_acc (i0 seg : Nat) (s : State) :
    ∃ fs : List Frame, fs.length = min seg (s.acc.length - i0) ∧ (mixSegment i0 seg s).1.acc = putFrames s.acc i0 seg fs := by
  cases hb : s.cfg.backend with
  | vr =>
    rw [mixSegment_of_vr hb]
    exact ⟨_, by simp, rfl⟩
  | fp =>
    rw [mixSegment_of_fp hb]
    cases h : (mixVoices (fpVoiceSample s.cfg s.arena) s.fp (framesAt s.acc i0 seg)).stop with
    | none => rw [mixSegmentFp_of_go h]; exact ⟨_, by simp, rfl⟩
    | some e => rw [mixSegmentFp_of_stop h]; exact ⟨_, by simp, rfl⟩

/-- No bank and no buffer changes its size in a segment. -/
theorem mixSegment_sizes (i0 seg : Nat) (s : State) :
    (mixSegment i0 seg s).1.acc.length = s.acc.length ∧ (mixSegment i0 seg s).1.fp.length = s.fp.length ∧
      (mixSegment i0 seg s).1.vr.length = s.vr.length := by
  obtain ⟨fs, hlength, hacc⟩ := mixSegment_acc i0 seg s
  refine ⟨by rw [hacc, (putFrames_reads s.acc i0 seg fs hlength).1], ?_, ?_⟩
  · cases hb : s.cfg.backend with
    | fp => rw [mixSegment_of_fp hb, mixSegmentFp_fp, mixVoices_voices_length]
    | vr => rw [mixSegment_of_vr hb]; rfl
  · cases hb : s.cfg.backend with
    | fp => rw [mixSegment_of_fp hb, mixSegmentFp_vr]
    | vr => rw [mixSegment_of_vr hb]; exact mixVoices_voices_length _ _ _

theorem mixSegment_acc_outside {k : Nat} (h : k < i0 ∨ i0 + seg ≤ k) : (mixSegment i0 seg s).1.acc[k]? = s.acc[k]? := by
  obtain ⟨fs, hlength, hacc⟩ := mixSegment_acc i0 seg s
  rw [hacc, (putFrames_reads s.acc i0 seg fs hlength).2.2 k h]

/-! ### Two segments after each other (R464) -/

theorem framesAt_add (acc : List Frame) (i a b : Nat) : framesAt acc i (a + b) = framesAt acc i a ++ framesAt acc (i + a) b := by
  rw [framesAt, framesAt, framesAt, List.take_add, List.drop_drop]

theorem framesAt_putFrames_after {acc fs : List Frame} {i a b : Nat} (h : fs.length = min a (acc.length - i)) :
    framesAt (putFrames acc i a fs) (i + a) b = framesAt acc (i + a) b := by
  apply List.ext_getElem?
  intro k
  simp only [framesAt, List.getElem?_take, List.getElem?_drop]
  rw [(putFrames_reads acc i a fs h).2.2 (i + a + k) (.inr (by omega))]

theorem putFrames_putFrames_after {acc fs gs : List Frame} {i a b : Nat} (hin : i + a + b ≤ acc.length) (hfs : fs.length = a) :
    putFrames (putFrames acc i a fs) (i + a) b gs = putFrames acc i (a + b) (fs ++ gs) := by
  have htake : (putFrames acc i a fs).take (i + a) = acc.take i ++ fs := by
    rw [putFrames, List.take_append_of_le_length (by simp; omega), List.take_of_length_le (by simp; omega)]
  have hdrop : (putFrames acc i a fs).drop (i + a + b) = acc.drop (i + (a + b)) := by
    rw [putFrames, List.drop_append, List.drop_of_length_le (by simp; omega), List.nil_append, List.drop_drop]
    congr 1
    simp
    omega
  rw [putFrames, htake, hdrop, putFrames, List.append_assoc (acc.take i) fs gs]

theorem mixSegmentVr_split {a b : Nat} (hin : i0 + a + b ≤ s.acc.length) (h : (mixSegmentVr i0 (a + b) s).2 = none) :
    (mixSegmentVr i0 a s).2 = none ∧ mixSegmentVr (i0 + a) b (mixSegmentVr i0 a s).1 = mixSegmentVr i0 (a + b) s := by
  have hgo : (mixVoices (vrVoiceSample s.cfg s.arena) s.vr (framesAt s.acc i0 (a + b))).stop = none := h
  rw [framesAt_add] at hgo
  obtain ⟨hfirst, hsplit⟩ := mixVoices_append _ hgo
  refine ⟨hfirst, ?_⟩
  simp only [mixSegmentVr]
  rw [framesAt_putFrames_after (by simp), framesAt_add, hsplit, putFrames_putFrames_after hin (by simp; omega)]

theorem mixSegmentFp_split {a b : Nat} (hin : i0 + a + b ≤ s.acc.length) (h : (mixSegmentFp i0 (a + b) s).2 = none) :
    (mixSegmentFp i0 a s).2 = none ∧ mixSegmentFp (i0 + a) b (mixSegmentFp i0 a s).1 = mixSegmentFp i0 (a + b) s := by
  have hgo := h
  rw [mixSegmentFp_stop, framesAt_add] at hgo
  obtain ⟨hfirst, hsplit⟩ := mixVoices_append _ hgo
  refine ⟨(mixSegmentFp_stop i0 a s).trans hfirst, ?_⟩
  have hsecond := hgo
  rw [hsplit] at hsecond
  rw [mixSegmentFp_of_go hfirst, mixSegmentFp_of_go (by rw [framesAt_putFrames_after (by simp)]; exact hsecond),
    mixSegmentFp_of_go (by rw [framesAt_add]; exact hgo)]
  simp only
  rw [framesAt_putFrames_after (by simp), framesAt_add, hsplit]
  simp only
  rw [filterFrames_append, putFrames_putFrames_after hin (by simp; omega)]

end

/-! ### The obligations -/

/-- Settles O53: the two nestings for any sample function, then what a segment is on each backend. -/
theorem mixingNestsEitherWay : Obligations.MixingNestsEitherWay := by
  refine ⟨fun V f vs as h => mixVoices_eq_mixSampleMajor f h, fun s i0 seg hb => ?fp, fun s i0 seg hb => ?vr⟩
  case fp =>
    dsimp only
    rw [mixSegment_of_fp hb]
    refine ⟨mixSegmentFp_stop i0 seg s, fun hgo => ?_⟩
    obtain ⟨hlength, hin, hout⟩ := putFrames_reads s.acc i0 seg
      (filterFrames s.cfg s.flt (mixVoices (fpVoiceSample s.cfg s.arena) s.fp (framesAt s.acc i0 seg)).frames).2 (by simp)
    rw [mixSegmentFp_of_go hgo]
    refine ⟨by rw [List.take_length, ← filterFrames_fst]; rfl, hlength, by simp, fun j a hj => ?_, hout⟩
    exact hin j _ (by rw [filterFrames_getElem?, framesAt, hj]; rfl)
  case vr =>
    dsimp only
    rw [mixSegment_of_vr hb]
    refine ⟨rfl, fun hgo => ?_⟩
    obtain ⟨hlength, hin, hout⟩ := putFrames_reads s.acc i0 seg
      (mixVoices (vrVoiceSample s.cfg s.arena) s.vr (framesAt s.acc i0 seg)).frames (by simp)
    exact ⟨rfl, hlength, by simp, hin, hout⟩

/-- Settles O54: the frames of a segment of `a + b` are those of one of `a` and of one of `b` after it, in voices, filter and buffer. -/
theorem segmentsSplitAnywhere : Obligations.SegmentsSplitAnywhere := by
  intro s i0 a b hin h
  have hcfg : (mixSegment i0 a s).1.cfg = s.cfg := (mixSegment_frame i0 a s).1
  cases hb : s.cfg.backend with
  | fp =>
    rw [mixSegment_of_fp hb] at h hcfg ⊢
    rw [mixSegment_of_fp hb, mixSegment_of_fp (by rw [hcfg, hb])]
    exact mixSegmentFp_split hin h
  | vr =>
    rw [mixSegment_of_vr hb] at h hcfg ⊢
    rw [mixSegment_of_vr hb, mixSegment_of_vr (by rw [hcfg, hb])]
    exact mixSegmentVr_split hin h

end Sys2Proof.Machine

/-! Which operands are in range, and that every voice write keeps the ranges of its voice (R50, R53, R55). -/

namespace Sys2Proof.Machine

/-! ### Operands (R141) -/

theorem opClamp_le (hi : Nat) (d : Word) : opClamp 0 hi d ≤ hi := by
  unfold opClamp
  omega

theorem opU32_lt (d : Word) : opU32 d < 2 ^ 32 := d.isLt

theorem opF32_eq_some {d : Word} {x : NUM} (h : opF32 d = some x) : x = d ∧ NUM.isFinite x = true := by
  unfold opF32 at h
  split at h
  next hfinite =>
    cases h
    exact ⟨rfl, hfinite⟩
  · cases h

theorem opF32Range_eq_some {lo hi d : Word} {x : NUM} (h : opF32Range lo hi d = some x) :
    x = d ∧ NUM.isFinite x = true ∧ NUM.val lo ≤ NUM.val x ∧ NUM.val x < NUM.val hi := by
  unfold opF32Range at h
  split at h
  next hlegal =>
    cases h
    simp only [NUM.fge, NUM.flt, Bool.and_eq_true, decide_eq_true_eq] at hlegal
    obtain ⟨⟨hfinite, -, hlo⟩, -, hhi⟩ := hlegal
    exact ⟨rfl, hfinite, hlo, hhi⟩
  · cases h

theorem val_zero : NUM.val 0#32 = 0 := by decide

theorem val_one : NUM.val NUM.one = NUM.one149 := by decide

theorem val_c65536 : NUM.val NUM.c65536 = 65536 * (NUM.one149 : Int) := by decide

/-- The start values of a timer and of a fraction are in range. -/
theorem zero_timer_inRange :
    NUM.isFinite 0#32 = true ∧ 0 ≤ NUM.val 0#32 ∧ NUM.val 0#32 < 1024 * (NUM.one149 : Int) := by decide

theorem zero_fraction_inRange : NUM.isFinite 0#32 = true ∧ 0 ≤ NUM.val 0#32 ∧ NUM.val 0#32 < (NUM.one149 : Int) := by decide

/-! ### Fixed-period writes (R200 to R208) -/

/-- A write to a fixed-period voice that keeps the voice in range. -/
abbrev FpWriteKeeps (f : FpVoice → FpVoice) : Prop := ∀ x : FpVoice, x.InRange → (f x).InRange

theorem fpSetEnabled_keeps (b : Bool) : FpWriteKeeps (fpSetEnabled b) := by
  rintro x ⟨hperiod, hvolume, hdelay, hpan, hcursor, hdac, htimer⟩
  unfold fpSetEnabled
  split
  · exact ⟨hperiod, hvolume, le_refl 2, hpan, hcursor, hdac, fun _ => zero_timer_inRange⟩
  next hedge =>
    refine ⟨hperiod, hvolume, hdelay, hpan, hcursor, hdac, fun hb => htimer ?_⟩
    dsimp only at hb
    simpa [hb] using hedge

theorem fpPeriod_keeps {p : Nat} (h : p ≤ 65535) : FpWriteKeeps fun x => { x with period := p } :=
  fun _ hx => ⟨h, hx.2⟩

theorem fpVolume_keeps {n : Nat} (h : n ≤ 64) : FpWriteKeeps fun x => { x with volume := n } :=
  fun _ ⟨hperiod, _, hrest⟩ => ⟨hperiod, h, hrest⟩

theorem fpPointer_keeps {a : Nat} (h : a < 2 ^ 32) : FpWriteKeeps fun x => { x with pointer := a } :=
  fun _ ⟨hperiod, hvolume, hdelay, hpan, ⟨_, hcursor⟩, hrest⟩ => ⟨hperiod, hvolume, hdelay, hpan, ⟨h, hcursor⟩, hrest⟩

theorem fpLength_keeps {n : Nat} (h : n < 2 ^ 32) : FpWriteKeeps fun x => { x with length := n } :=
  fun _ ⟨hperiod, hvolume, hdelay, hpan, ⟨hpointer, _, hloop⟩, hrest⟩ =>
    ⟨hperiod, hvolume, hdelay, hpan, ⟨hpointer, h, hloop⟩, hrest⟩

theorem fpLoopPointer_keeps {a : Nat} (h : a < 2 ^ 32) : FpWriteKeeps fun x => { x with loopPointer := a } :=
  fun _ ⟨hperiod, hvolume, hdelay, hpan, ⟨hpointer, hlength, _, hloopLength⟩, hrest⟩ =>
    ⟨hperiod, hvolume, hdelay, hpan, ⟨hpointer, hlength, h, hloopLength⟩, hrest⟩

theorem fpLoopLength_keeps {n : Nat} (h : n < 2 ^ 32) : FpWriteKeeps fun x => { x with loopLength := n } :=
  fun _ ⟨hperiod, hvolume, hdelay, hpan, ⟨hpointer, hlength, hloopPointer, _⟩, hrest⟩ =>
    ⟨hperiod, hvolume, hdelay, hpan, ⟨hpointer, hlength, hloopPointer, h⟩, hrest⟩

theorem fpMute_keeps (b : Bool) : FpWriteKeeps fun x => { x with mute := b } := fun _ hx => hx

theorem fpPanning_keeps {p : NUM} (h : NUM.isFinite p = true) : FpWriteKeeps fun x => { x with pan := p } :=
  fun _ ⟨hperiod, hvolume, hdelay, _, hrest⟩ => ⟨hperiod, hvolume, hdelay, h, hrest⟩

/-! ### Streams (R53, R321) -/

/-- Resolve keeps a stream in range, as a loop ends below 2^33. -/
theorem resolve_inRange {t : Stream} (h : t.InRange) : (resolve t).1.InRange := by
  obtain ⟨⟨hbase, hlength, hstart, hlen⟩, ⟨hlo, hhi⟩, hfraction, hspeed⟩ := h
  have hend : t.loopEnd = t.loopStart + t.loopLength := rfl
  have hp := resolve_pointer t
  rw [resolve_keeps] at hp ⊢
  dsimp only at hp
  exact ⟨⟨hbase, hlength, hstart, hlen⟩, by constructor <;> dsimp only <;> omega, hfraction, hspeed⟩

/-- What a voice needs to be in range, but for its live stream where Resolve will put it. -/
abbrev VrVoice.InRangeUnresolved (v : VrVoice) : Prop :=
  (v.volume ≤ 64 ∧ v.panning ≤ 255 ∧ v.mixCounter ≤ 220 ∧ v.volCounter ≤ 110250 ∧ v.panCounter ≤ 110250) ∧
  (v.nextBase < 2 ^ 32 ∧ v.nextLength < 2 ^ 32 ∧ v.nextLoopStart < 2 ^ 32 ∧ v.nextLoopLength < 2 ^ 32) ∧
  v.live.InRange ∧ v.old.InRange ∧ (v.oldActive = true → v.old.Playable)

theorem resolveLive_inRange {v : VrVoice} (h : v.InRangeUnresolved) : v.resolveLive.InRange := by
  obtain ⟨hcounters, hnext, hlive, hold, holdPlayable⟩ := h
  refine ⟨hcounters, hnext, resolve_inRange hlive, hold, fun henabled => resolve_playable ?_, holdPlayable⟩
  simp only [VrVoice.resolveLive, Bool.and_eq_true, Bool.not_eq_true'] at henabled
  exact henabled.2

/-! ### Variable-rate writes (R300 to R317) -/

/-- A write to a variable-rate voice that keeps the voice in range. -/
abbrev VrWriteKeeps (f : VrVoice → VrVoice) : Prop := ∀ x : VrVoice, x.InRange → (f x).InRange

theorem vrSetEnabled_keeps (b : Bool) : VrWriteKeeps (vrSetEnabled b) := by
  rintro x ⟨⟨hvolume, hpanning, hmix, hcounters⟩, hnext, hlive, hold, hplayable, holdPlayable⟩
  unfold vrSetEnabled
  split
  · split
    · exact ⟨⟨hvolume, hpanning, hmix, hcounters⟩, hnext, hlive, hold, hplayable, holdPlayable⟩
    · exact resolveLive_inRange
        ⟨⟨hvolume, hpanning, Nat.zero_le _, hcounters⟩, hnext, hlive, hold, fun hactive => absurd hactive (by simp)⟩
  · exact ⟨⟨hvolume, hpanning, Nat.zero_le _, hcounters⟩, hnext, hlive, hold, fun henabled => absurd henabled (by simp),
      fun hactive => absurd hactive (by simp)⟩

/-- A write to the live stream that leaves its range and its position keeps the voice. -/
theorem vrSpeed_keeps {x : NUM} (hfinite : NUM.isFinite x = true) (hlo : 0 ≤ NUM.val x)
    (hhi : NUM.val x < 65536 * (NUM.one149 : Int)) : VrWriteKeeps fun w => { w with live := { w.live with speed := x } } :=
  fun _ ⟨hcounters, hnext, ⟨hregs, hpointer, hfraction, _⟩, hrest⟩ =>
    ⟨hcounters, hnext, ⟨hregs, hpointer, hfraction, hfinite, hlo, hhi⟩, hrest⟩

theorem vrFraction_keeps {x : NUM} (hfinite : NUM.isFinite x = true) (hlo : 0 ≤ NUM.val x)
    (hhi : NUM.val x < (NUM.one149 : Int)) : VrWriteKeeps fun w => { w with live := { w.live with fraction := x } } :=
  fun _ ⟨hcounters, hnext, ⟨hregs, hpointer, _, hspeed⟩, hrest⟩ =>
    ⟨hcounters, hnext, ⟨hregs, hpointer, ⟨hfinite, hlo, hhi⟩, hspeed⟩, hrest⟩

/-- A write that moves the live stream keeps the voice, as a sounding voice is resolved at once. -/
theorem vrMoveLive_keeps {f : Stream → Stream} (hf : ∀ t : Stream, t.InRange → (f t).InRange) : VrWriteKeeps (vrMoveLive f) := by
  rintro x ⟨hcounters, hnext, hlive, hold, -, holdPlayable⟩
  unfold vrMoveLive
  dsimp only
  split
  · exact resolveLive_inRange ⟨hcounters, hnext, hf _ hlive, hold, holdPlayable⟩
  next hsilent => exact ⟨hcounters, hnext, hf _ hlive, hold, fun henabled => absurd henabled hsilent, holdPlayable⟩

theorem pointerWrite_inRange {t : Stream} {a : Nat} (ha : a < 2 ^ 32) (h : t.InRange) : { t with pointer := a }.InRange := by
  obtain ⟨hregs, -, hrest⟩ := h
  refine ⟨hregs, ?_, hrest⟩
  constructor <;> dsimp only <;> omega

theorem directionWrite_inRange {t : Stream} (x : Direction) (h : t.InRange) : { t with direction := x }.InRange := h

theorem loopModeWrite_inRange {t : Stream} (m : LoopMode) (h : t.InRange) : { t with loopMode := m }.InRange := h

theorem vrSetVolume_keeps (c : Config) {spt n : Nat} (hspt : spt ≤ 110250) (hn : n ≤ 64) : VrWriteKeeps (vrSetVolume c spt n) := by
  rintro x ⟨⟨-, hpanning, hmix, -, hpan⟩, hrest⟩
  unfold vrSetVolume
  split
  · exact ⟨⟨hn, hpanning, hmix, hspt, hpan⟩, hrest⟩
  · exact ⟨⟨hn, hpanning, hmix, Nat.zero_le _, hpan⟩, hrest⟩

theorem vrSetPanning_keeps (c : Config) {spt n : Nat} (hspt : spt ≤ 110250) (hn : n ≤ 255) :
    VrWriteKeeps (vrSetPanning c spt n) := by
  rintro x ⟨⟨hvolume, -, hmix, hvol, -⟩, hrest⟩
  unfold vrSetPanning
  split
  · exact ⟨⟨hvolume, hn, hmix, hvol, hspt⟩, hrest⟩
  · exact ⟨⟨hvolume, hn, hmix, hvol, Nat.zero_le _⟩, hrest⟩

theorem vrMute_keeps (b : Bool) : VrWriteKeeps fun w => { w with mute := b } := fun _ hx => hx

theorem vrNextBase_keeps {a : Nat} (h : a < 2 ^ 32) : VrWriteKeeps fun w => { w with nextBase := a } :=
  fun _ ⟨hcounters, ⟨_, hnext⟩, hrest⟩ => ⟨hcounters, ⟨h, hnext⟩, hrest⟩

theorem vrNextLength_keeps {n : Nat} (h : n < 2 ^ 32) : VrWriteKeeps fun w => { w with nextLength := n } :=
  fun _ ⟨hcounters, ⟨hbase, _, hloop⟩, hrest⟩ => ⟨hcounters, ⟨hbase, h, hloop⟩, hrest⟩

theorem vrNextLoopStart_keeps {a : Nat} (h : a < 2 ^ 32) : VrWriteKeeps fun w => { w with nextLoopStart := a } :=
  fun _ ⟨hcounters, ⟨hbase, hlength, _, hlen⟩, hrest⟩ => ⟨hcounters, ⟨hbase, hlength, h, hlen⟩, hrest⟩

theorem vrNextLoopLength_keeps {n : Nat} (h : n < 2 ^ 32) : VrWriteKeeps fun w => { w with nextLoopLength := n } :=
  fun _ ⟨hcounters, ⟨hbase, hlength, hstart, _⟩, hrest⟩ => ⟨hcounters, ⟨hbase, hlength, hstart, h⟩, hrest⟩

theorem vrNextLoopMode_keeps (m : LoopMode) : VrWriteKeeps fun w => { w with nextLoopMode := m } := fun _ hx => hx

/-- The stream a trigger leaves as the old one is the live one of a sounding voice (R317). -/
theorem vrSnapshot_keeps (c : Config) : VrWriteKeeps (vrSnapshot c) := by
  rintro x ⟨⟨hvolume, hpanning, -, hcounters⟩, hnext, hlive, hold, hplayable, -⟩
  unfold vrSnapshot
  split
  next hsounding =>
    have henabled : x.enabled = true := ((Bool.and_eq_true _ _).mp hsounding).2
    exact ⟨⟨hvolume, hpanning, le_refl 220, hcounters⟩, hnext, hlive, hlive, hplayable, fun _ => hplayable henabled⟩
  · exact ⟨⟨hvolume, hpanning, Nat.zero_le _, hcounters⟩, hnext, hlive, hold, hplayable, fun hactive => absurd hactive (by simp)⟩

theorem vrStart_keeps {start : Nat} (h : start < 2 ^ 32) : VrWriteKeeps (vrStart start) := by
  rintro x ⟨hcounters, ⟨hbase, hlength, hstart, hlen⟩, ⟨-, -, -, hspeed⟩, hold, -, holdPlayable⟩
  refine resolveLive_inRange ⟨hcounters, ⟨hbase, hlength, hstart, hlen⟩, ⟨⟨hbase, hlength, hstart, hlen⟩, ?_, zero_fraction_inRange, hspeed⟩,
    hold, holdPlayable⟩
  constructor <;> dsimp only <;> omega

end Sys2Proof.Machine

/-! What each command does when it answers a next state: one inversion of `exec` for the rules of the whole machine, and of Run for
the two commands that mix (R455, R615). -/

namespace Sys2Proof.Machine

/-! ### Run (R455) -/

/-- What Run's loop test sees: nothing to mix, or one segment mixed and counted. -/
inductive Segment (s : State) : State → Prop where
  | nothing (hend : s.rc.rTarget ≤ s.rc.rProduced ∨ s.clk.samplesRemainingInTick = 0) : Segment s s
  | mixed {u : State} (hgo : s.rc.rProduced < s.rc.rTarget) (hmix : mixSegment s.rc.rProduced s.segLength s = (u, none)) :
      Segment s (u.countSegment s.segLength)

/-- How a pass that Run works on ends: after its segment, or in an arena fault within it. -/
inductive Runs (s : State) : State → Prop where
  | ended {u : State} (h : Segment s u) : Runs s (afterSegment u)
  | faulted {u : State} {a : Nat} (hgo : s.rc.rProduced < s.rc.rTarget)
      (hmix : mixSegment s.rc.rProduced s.segLength s = (u, some (.arenaRange a))) :
      Runs s (raiseFault .arenaRange a u.freeAcc)

theorem runs_of_run {s t : State} (h : run s = .next t) : Runs s t := by
  rcases run_cases s with ⟨hend, hrun⟩ | ⟨hgo, -, ⟨u, hmix, hrun⟩ | ⟨u, e, hmix, hrun⟩⟩
  · cases hrun.symm.trans h
    exact .ended (.nothing hend)
  · cases hrun.symm.trans h
    exact .ended (.mixed hgo hmix)
  · rw [hrun] at h
    rcases stopMixing_cases (s := u) e with ⟨a, rfl, hstop⟩ | ⟨-, hstop⟩
    · cases hstop.symm.trans h
      exact .faulted hgo hmix
    · cases hstop.symm.trans h

/-! ### Every command -/

/-- What a command leaves when it answers a next state: it is refused, or its checks have passed and it has its effect. -/
inductive Does (s : State) : Instr → State → Prop where
  | refused (i : Instr) {st : Status} (hok : st ≠ .ok) (htick : st ≠ .tick) : Does s i (s.refuseWith st)
  | fpWrote {i : Instr} {v : Nat} {f : FpVoice → FpVoice} (hi : i.backend? = some .fp) (hfault : s.flr.fault = false)
      (hkeeps : FpWriteKeeps f) : Does s i ((s.modFp v f).reply .ok 0)
  | vrWrote {i : Instr} {v : Nat} {f : VrVoice → VrVoice} (hi : i.backend? = some .vr) (hfault : s.flr.fault = false)
      (hkeeps : s.clk.samplesPerTick ≤ 110250 → VrWriteKeeps f) : Does s i ((s.modVr v f).reply .ok 0)
  | reset (d : Word) : Does s (.reset d) (s.resetRegisters.reply .ok 0)
  | init (d : Word) (hfault : s.flr.fault = false) (hpending : s.clk.tickPending = false) :
      Does s (.init d) (s.initRegisters.reply .ok 0)
  | rendered {t : State} (d : Word) (hfault : s.flr.fault = false) (hpending : s.clk.tickPending = false)
      (hstate : s.clk.state ≠ .idle) (hchunk : d.toNat ≤ s.cfg.chunkN) (hrun : Runs (s.startPass d.toNat) t) : Does s (.render d) t
  | ticked {t : State} (d : Word) {e : Bool} (hd : opBool d = some e) (hfault : s.flr.fault = false)
      (hpending : s.clk.tickPending = true) (hrun : Runs (tickReturn e s) t) : Does s (.tickdone d) t
  | foundNaN (d : Word) (i : Nat) (hfault : s.flr.fault = false) (hpending : s.clk.tickPending = false) :
      Does s (.drain d) (raiseFault .numeric i s)
  | drained (d : Word) (hfault : s.flr.fault = false) (hpending : s.clk.tickPending = false) (hrange : d.toNat ≤ s.undrained) :
      Does s (.drain d) ((s.drainFrames d.toNat).reply .ok (value (s.drainCount d.toNat)))
  | setsink (d : Word) : Does s (.setsink d) (({ s with snk := { s.snk with sinkAvail := d.toNat } } : State).reply .ok 0)
  | stored (d : Word) (hsealed : s.isSealed = false) (hroom : s.arenaLen + (s.storeBytes d.toNat).length ≤ s.cfg.arenaCap) :
      Does s (.store d) (({ s with arena := s.arena.append (s.storeBytes d.toNat) } : State).reply .ok (value s.arenaLen))
  | settempo (d : Word) (hlo : 1 ≤ d.toNat) (hhi : d.toNat ≤ 65535) :
      Does s (.settempo d)
        (({ s with clk := { s.clk with tempo := d.toNat, samplesPerTick := tempoBase / d.toNat } } : State).reply .ok 0)
  | setspeed (d : Word) (hhi : d.toNat ≤ 255) :
      Does s (.setspeed d) (({ s with clk := { s.clk with speed := d.toNat } } : State).reply .ok 0)
  | setloop (d : Word) (b : Bool) : Does s (.setloop d) (({ s with clk := { s.clk with loopSong := b } } : State).reply .ok 0)
  | setled (d : Word) (a f : Bool) :
      Does s (.setled d) (({ s with flt := { s.flt with ledActive := a, ledForced := f } } : State).reply .ok 0)
  | reported {i : Instr} (w : Word) (hi : (∃ d, i = .status d) ∨ ∃ d, i = .read d) : Does s i (s.reply .ok w)

section
variable {s t : State} {i : Instr}

/-- A guarded command does nothing but refuse, or what stands behind its checks. -/
theorem does_guarded {checks : List (Bool × Status)} {act : Answer} (hst : ∀ c ∈ checks, c.2 ≠ .ok ∧ c.2 ≠ .tick)
    (h : guarded checks s act = .next t) (hact : (∀ c ∈ checks, c.1 = false) → act = .next t → Does s i t) : Does s i t := by
  rcases guarded_cases (s := s) checks act with ⟨st, hfirst, hrefused⟩ | ⟨hpass, hpassed⟩
  · cases hrefused.symm.trans h
    obtain ⟨hok, htick⟩ := hst _ (firstError_mem hfirst)
    exact .refused i hok htick
  · exact hact hpass (hpassed.symm.trans h)

theorem voiceChecks_status {b : Backend} {v : BitVec 8} {legal : Bool} :
    ∀ c ∈ voiceChecks b v legal s, c.2 ≠ .ok ∧ c.2 ≠ .tick := by
  simp [voiceChecks]

theorem does_fpWrite {α : Type} {v : BitVec 8} {operand : Option α} {f : α → FpVoice → FpVoice} (hi : i.backend? = some .fp)
    (hkeeps : ∀ x, operand = some x → FpWriteKeeps (f x)) (h : fpWrite v operand f s = .next t) : Does s i t := by
  rcases fpWrite_cases (s := s) v operand f with ⟨st, hfirst, hrefused⟩ | ⟨-, hfault, -, x, hx, hwrote⟩
  · cases hrefused.symm.trans h
    obtain ⟨hok, htick⟩ := voiceChecks_status _ (firstError_mem hfirst)
    exact .refused i hok htick
  · cases hwrote.symm.trans h
    exact .fpWrote hi hfault (hkeeps x hx)

/-- The same for an operand kind that takes every word (R141). -/
theorem does_fpWrite_some {α : Type} {v : BitVec 8} {x : α} {f : α → FpVoice → FpVoice} (h : fpWrite v (some x) f s = .next t)
    (hi : i.backend? = some .fp) (hkeeps : FpWriteKeeps (f x)) : Does s i t :=
  does_fpWrite hi (by rintro _ ⟨⟩; exact hkeeps) h

theorem does_vrWrite {α : Type} {v : BitVec 8} {operand : Option α} {f : α → VrVoice → VrVoice} (hi : i.backend? = some .vr)
    (hkeeps : s.clk.samplesPerTick ≤ 110250 → ∀ x, operand = some x → VrWriteKeeps (f x))
    (h : vrWrite v operand f s = .next t) : Does s i t := by
  rcases vrWrite_cases (s := s) v operand f with ⟨st, hfirst, hrefused⟩ | ⟨-, hfault, -, x, hx, hwrote⟩
  · cases hrefused.symm.trans h
    obtain ⟨hok, htick⟩ := voiceChecks_status _ (firstError_mem hfirst)
    exact .refused i hok htick
  · cases hwrote.symm.trans h
    exact .vrWrote hi hfault fun hspt => hkeeps hspt x hx

theorem does_vrWrite_some {α : Type} {v : BitVec 8} {x : α} {f : α → VrVoice → VrVoice} (h : vrWrite v (some x) f s = .next t)
    (hi : i.backend? = some .vr) (hkeeps : s.clk.samplesPerTick ≤ 110250 → VrWriteKeeps (f x)) : Does s i t :=
  does_vrWrite hi (by rintro hspt _ ⟨⟩; exact hkeeps hspt) h

/-! ### The control commands -/

theorem does_execInit {d : Word} (h : execInit d s = .next t) : Does s (.init d) t :=
  does_guarded (by simp) h fun hpass hact => by
    simp only [List.mem_cons, List.not_mem_nil, or_false, forall_eq_or_imp, forall_eq] at hpass
    obtain ⟨hfault, hpending, -⟩ := hpass
    cases hact
    exact .init d hfault hpending

theorem does_execRender {d : Word} (h : execRender d s = .next t) : Does s (.render d) t :=
  does_guarded (by simp [renderChecks]) h fun hpass hact => by
    simp only [renderChecks, List.mem_cons, List.not_mem_nil, or_false, forall_eq_or_imp, forall_eq, beq_eq_false_iff_ne,
      decide_eq_false_iff_not, not_lt] at hpass
    obtain ⟨hfault, hpending, hstate, hchunk, -⟩ := hpass
    exact .rendered d hfault hpending hstate hchunk (runs_of_run hact)

theorem does_execTickdone {d : Word} (h : execTickdone d s = .next t) : Does s (.tickdone d) t :=
  does_guarded (by simp) h fun hpass hact => by
    simp only [List.mem_cons, List.not_mem_nil, or_false, forall_eq_or_imp, forall_eq, Bool.not_eq_false'] at hpass
    obtain ⟨hfault, hpending, -⟩ := hpass
    split at hact
    next e hd => exact .ticked d hd hfault hpending (runs_of_run hact)
    · cases hact
      exact .refused _ (by decide) (by decide)

theorem does_execDrain {d : Word} (h : execDrain d s = .next t) : Does s (.drain d) t :=
  does_guarded (by simp) h fun hpass hact => by
    simp only [List.mem_cons, List.not_mem_nil, or_false, forall_eq_or_imp, forall_eq, decide_eq_false_iff_not, not_lt] at hpass
    obtain ⟨hfault, hpending, hrange⟩ := hpass
    split at hact
    · cases hact
      exact .foundNaN d _ hfault hpending
    · cases hact
      exact .drained d hfault hpending hrange

theorem does_execSetsink {d : Word} (h : execSetsink d s = .next t) : Does s (.setsink d) t :=
  does_guarded (by simp) h fun _ hact => by
    cases hact
    exact .setsink d

theorem does_execStore {d : Word} (h : execStore d s = .next t) : Does s (.store d) t :=
  does_guarded (by simp) h fun hpass hact => by
    simp only [List.mem_cons, List.not_mem_nil, or_false, forall_eq_or_imp, forall_eq, decide_eq_false_iff_not, not_lt] at hpass
    obtain ⟨-, -, hsealed, hroom⟩ := hpass
    cases hact
    exact .stored d hsealed hroom

theorem opRange_eq_some {lo hi n : Nat} {d : Word} (h : opRange lo hi d = some n) : n = d.toNat ∧ lo ≤ d.toNat ∧ d.toNat ≤ hi := by
  unfold opRange at h
  split at h
  next hlegal =>
    cases h
    exact ⟨rfl, hlegal⟩
  · cases h

theorem does_execSettempo {d : Word} (h : execSettempo d s = .next t) : Does s (.settempo d) t :=
  does_guarded (by simp) h fun _ hact => by
    split at hact
    next n hn =>
      obtain ⟨rfl, hlo, hhi⟩ := opRange_eq_some hn
      cases hact
      exact .settempo d hlo hhi
    · cases hact
      exact .refused _ (by decide) (by decide)

theorem does_execSetspeed {d : Word} (h : execSetspeed d s = .next t) : Does s (.setspeed d) t :=
  does_guarded (by simp) h fun _ hact => by
    split at hact
    next n hn =>
      obtain ⟨rfl, -, hhi⟩ := opRange_eq_some hn
      cases hact
      exact .setspeed d hhi
    · cases hact
      exact .refused _ (by decide) (by decide)

theorem does_execSetloop {d : Word} (h : execSetloop d s = .next t) : Does s (.setloop d) t :=
  does_guarded (by simp) h fun _ hact => by
    split at hact
    next b _ =>
      cases hact
      exact .setloop d b
    · cases hact
      exact .refused _ (by decide) (by decide)

theorem does_execSetled {d : Word} (h : execSetled d s = .next t) : Does s (.setled d) t :=
  does_guarded (by simp) h fun _ hact => by
    split at hact
    next a f _ =>
      cases hact
      exact .setled d a f
    · cases hact
      exact .refused _ (by decide) (by decide)

theorem does_execStatus {d : Word} (h : execStatus d s = .next t) : Does s (.status d) t :=
  does_guarded (by simp) h fun _ hact => by
    cases hact
    exact .reported _ (.inl ⟨d, rfl⟩)

theorem does_execRead {d : Word} (h : execRead d s = .next t) : Does s (.read d) t :=
  does_guarded (by simp) h fun _ hact => by
    split at hact
    · cases hact
      exact .reported _ (.inr ⟨d, rfl⟩)
    · cases hact
      exact .refused _ (by decide) (by decide)

/-! ### All commands -/

/-- Everything a command can leave. -/
theorem does_exec (h : exec i s = .next t) : Does s i t := by
  unfold exec at h
  cases i with
  | reset d => cases h; exact .reset d
  | init d => exact does_execInit h
  | render d => exact does_execRender h
  | tickdone d => exact does_execTickdone h
  | drain d => exact does_execDrain h
  | setsink d => exact does_execSetsink h
  | store d => exact does_execStore h
  | settempo d => exact does_execSettempo h
  | setspeed d => exact does_execSetspeed h
  | setloop d => exact does_execSetloop h
  | setled d => exact does_execSetled h
  | status d => exact does_execStatus h
  | read d => exact does_execRead h
  | fpEnable v d => exact does_fpWrite rfl (fun b _ => fpSetEnabled_keeps b) h
  | fpPeriod v d => exact does_fpWrite_some h rfl (fpPeriod_keeps (opClamp_le _ d))
  | fpVolume v d => exact does_fpWrite_some h rfl (fpVolume_keeps (opClamp_le _ d))
  | fpPointer v d => exact does_fpWrite_some h rfl (fpPointer_keeps (opU32_lt d))
  | fpLength v d => exact does_fpWrite_some h rfl (fpLength_keeps (opU32_lt d))
  | fpLoopPointer v d => exact does_fpWrite_some h rfl (fpLoopPointer_keeps (opU32_lt d))
  | fpLoopLength v d => exact does_fpWrite_some h rfl (fpLoopLength_keeps (opU32_lt d))
  | fpMute v d => exact does_fpWrite rfl (fun b _ => fpMute_keeps b) h
  | fpPanning v d => exact does_fpWrite rfl (fun _ hx => fpPanning_keeps (opF32_eq_some hx).2) h
  | vrEnable v d => exact does_vrWrite rfl (fun _ b _ => vrSetEnabled_keeps b) h
  | vrSpeed v d =>
    refine does_vrWrite rfl (fun _ x hx => ?_) h
    obtain ⟨-, hfinite, hlo, hhi⟩ := opF32Range_eq_some hx
    exact vrSpeed_keeps hfinite (val_zero ▸ hlo) (val_c65536 ▸ hhi)
  | vrDirection v d => exact does_vrWrite rfl (fun _ x _ => vrMoveLive_keeps fun _ => directionWrite_inRange x) h
  | vrFraction v d =>
    refine does_vrWrite rfl (fun _ x hx => ?_) h
    obtain ⟨-, hfinite, hlo, hhi⟩ := opF32Range_eq_some hx
    exact vrFraction_keeps hfinite (val_zero ▸ hlo) (val_one ▸ hhi)
  | vrVolume v d => exact does_vrWrite_some h rfl fun hspt => vrSetVolume_keeps _ hspt (opClamp_le _ d)
  | vrPanning v d => exact does_vrWrite_some h rfl fun hspt => vrSetPanning_keeps _ hspt (opClamp_le _ d)
  | vrPointer v d => exact does_vrWrite_some h rfl fun _ => vrMoveLive_keeps fun _ => pointerWrite_inRange (opU32_lt d)
  | vrLength v d =>
    exact does_vrWrite_some h rfl fun _ => vrMoveLive_keeps fun _ ⟨⟨hbase, _, hloop⟩, hrest⟩ => ⟨⟨hbase, opU32_lt d, hloop⟩, hrest⟩
  | vrLoopStart v d =>
    exact does_vrWrite_some h rfl fun _ => vrMoveLive_keeps fun _ ⟨⟨hbase, hlength, _, hlen⟩, hrest⟩ =>
      ⟨⟨hbase, hlength, opU32_lt d, hlen⟩, hrest⟩
  | vrLoopLength v d =>
    exact does_vrWrite_some h rfl fun _ => vrMoveLive_keeps fun _ ⟨⟨hbase, hlength, hstart, _⟩, hrest⟩ =>
      ⟨⟨hbase, hlength, hstart, opU32_lt d⟩, hrest⟩
  | vrLoopMode v d => exact does_vrWrite rfl (fun _ m _ => vrMoveLive_keeps fun _ => loopModeWrite_inRange m) h
  | vrMute v d => exact does_vrWrite rfl (fun _ b _ => vrMute_keeps b) h
  | vrNextBase v d => exact does_vrWrite_some h rfl fun _ => vrNextBase_keeps (opU32_lt d)
  | vrNextLength v d => exact does_vrWrite_some h rfl fun _ => vrNextLength_keeps (opU32_lt d)
  | vrNextLoopStart v d => exact does_vrWrite_some h rfl fun _ => vrNextLoopStart_keeps (opU32_lt d)
  | vrNextLoopLength v d => exact does_vrWrite_some h rfl fun _ => vrNextLoopLength_keeps (opU32_lt d)
  | vrNextLoopMode v d => exact does_vrWrite rfl (fun _ m _ => vrNextLoopMode_keeps m) h
  | vrTrigger v d =>
    exact does_vrWrite_some h rfl fun _ => fun x hx => vrStart_keeps (opU32_lt d) _ (vrSnapshot_keeps s.cfg x hx)

end

/-- A step takes a command and runs it, or refuses the pair as ILLEGAL, or waits (R143, log 2). -/
theorem step_next_cases {s t : State} (h : step s = .next t) :
    t = s ∨ ∃ c rest, s.port.inbox = c :: rest ∧
      ((∃ e, decode s.cfg.backend c.cmd c.data = .error e ∧ t = (s.takeCommand c rest).refuseWith .illegal) ∨
        ∃ i, decode s.cfg.backend c.cmd c.data = .ok i ∧ Does (s.takeCommand c rest) i t) := by
  unfold step at h
  split at h
  · cases h
    exact .inl rfl
  next c rest hinbox =>
    refine .inr ⟨c, rest, hinbox, ?_⟩
    split at h
    next e hdecode =>
      cases h
      exact .inl ⟨e, hdecode, rfl⟩
    next i hdecode => exact .inr ⟨i, hdecode, does_exec h⟩

end Sys2Proof.Machine

/-! The invariant of the registers outside the voices and the cleared accumulator entries, by what each command does (R43 to R48, R56,
R60, R72, R73), and the obligations O19, O20, O21 and O25. -/

namespace Sys2Proof.Machine

/-! ### A new machine (R702) -/

theorem tempoBase_div_bounds {t : Nat} (hlo : 1 ≤ t) (hhi : t ≤ 65535) : 1 ≤ tempoBase / t ∧ tempoBase / t ≤ 110250 :=
  ⟨(Nat.one_le_div_iff hlo).mpr (by unfold tempoBase; omega), Nat.div_le_self _ _⟩

theorem resetSpt_bounds (c : Config) : 1 ≤ c.resetSpt ∧ c.resetSpt ≤ 110250 := by
  unfold Config.resetSpt Config.fpPresetSpt
  cases c.backend
  case fp => cases c.video <;> simp
  case vr => simp

theorem inv_powerOn {c : Config} (h : c.valid = true) : (State.powerOn c).Inv := by
  obtain ⟨hlo, hhi⟩ := resetSpt_bounds c
  refine ⟨h, ⟨rfl, Nat.zero_le _⟩, ⟨List.length_replicate, rfl, rfl⟩, ?_, ⟨rfl, fun hno => absurd hno (by simp [State.powerOn])⟩,
    fun hno => absurd rfl hno, ⟨hlo, hhi, ?_⟩, ?_, ?_⟩ <;> simp [State.powerOn]

theorem accClear_powerOn (c : Config) : (State.powerOn c).AccClear := by
  intro _ i hi _
  have hc : i < c.chunkN := by simpa [State.powerOn] using hi
  simp [State.powerOn, hc]

theorem fpVoice_initial_inRange : FpVoice.initial.InRange := by decide

theorem stream_initial_inRange : Stream.initial.InRange := by decide

theorem vrVoice_initial_inRange : VrVoice.initial.InRange :=
  ⟨by decide, by decide, stream_initial_inRange, stream_initial_inRange, fun hno => absurd hno (by decide),
    fun hno => absurd hno (by decide)⟩

theorem fpBank_inRange (c : Config) : ∀ v ∈ fpBank c, v.InRange := by
  unfold fpBank
  split
  · intro v hv
    rw [List.eq_of_mem_replicate hv]
    exact fpVoice_initial_inRange
  · simp

theorem vrBank_inRange (c : Config) : ∀ v ∈ vrBank c, v.InRange := by
  unfold vrBank
  split
  · simp
  · intro v hv
    rw [List.eq_of_mem_replicate hv]
    exact vrVoice_initial_inRange

/-- Settles O19: the reset values of R702 are in range, and the sample parameters are in those of R7. -/
theorem powerOnMeetsInvariants : Obligations.PowerOnMeetsInvariants := by
  have hall (c : Config) (h : c.valid = true) :
      (State.powerOn c).Inv ∧ (State.powerOn c).AccClear ∧ (State.powerOn c).FpInRange ∧ (State.powerOn c).VrInRange :=
    ⟨inv_powerOn h, accClear_powerOn c, fun _ => fpBank_inRange c, fun _ => vrBank_inRange c⟩
  exact ⟨hall, hall Config.sample (by decide)⟩

/-! ### A state in the middle of a pass -/

/-- The invariant of a state that Run works on: like `Inv`, with the pass running, no tick request and no fault (R453, R455, R456). -/
structure State.InPass (s : State) : Prop where
  valid : s.cfg.valid = true
  arena : s.arena.wf = true ∧ s.arenaLen ≤ s.cfg.arenaCap
  sizes : s.acc.length = s.cfg.chunkN ∧ s.fp.length = (fpBank s.cfg).length ∧ s.vr.length = (vrBank s.cfg).length
  cursor : s.drainPos = 0
  produced : s.lastProduced = s.rc.rProduced
  order : s.rc.rProduced ≤ s.rc.rTarget ∧ s.rc.rTarget ≤ s.rc.rRequested ∧ s.rc.rRequested ≤ s.cfg.chunkN ∧
    s.rc.rRequested < 2 ^ 32
  active : s.rc.rActive = true
  pending : s.clk.tickPending = false
  state : s.clk.state ≠ .idle
  isSealed : s.isSealed = true
  clock : 1 ≤ s.clk.samplesPerTick ∧ s.clk.samplesPerTick ≤ 110250 ∧ s.clk.samplesRemainingInTick ≤ 110250 ∧
    1 ≤ s.clk.tempo ∧ s.clk.tempo ≤ 65535 ∧ s.clk.speed ≤ 255 ∧ s.clk.remainingAfterCompletion < 2 ^ 32
  sink : s.snk.sinkAvail < 2 ^ 32 ∧ s.snk.drainShortfall < 2 ^ 32
  noFault : s.flr = ⟨false, .noFault, 0⟩

section
variable {s t u : State}

/-- Outside the fault state the fault registers are cleared (R73). -/
theorem flr_of_inv (h : s.Inv) (hfault : s.flr.fault = false) : s.flr = ⟨false, .noFault, 0⟩ := by
  obtain ⟨-, -, -, -, -, -, -, -, ⟨hcode, haddr, -⟩⟩ := h
  have hno : s.flr.faultCode = .noFault := by
    by_contra hne
    exact absurd (hcode.mpr hne) (by simp [hfault])
  rw [← hfault, ← hno, ← haddr hfault]

theorem inPass_startPass {n : Nat} (h : s.Inv) (hfault : s.flr.fault = false) (hpending : s.clk.tickPending = false)
    (hstate : s.clk.state ≠ .idle) (hchunk : n ≤ s.cfg.chunkN) (hn : n < 2 ^ 32) : (s.startPass n).InPass := by
  have hflr := flr_of_inv h hfault
  obtain ⟨hvalid, harena, ⟨hacc, hfp, hvr⟩, -, -, -, hclock, hsink, -⟩ := h
  exact ⟨hvalid, harena, ⟨by simpa using hacc, hfp, hvr⟩, rfl, rfl, ⟨Nat.zero_le _, le_refl _, hchunk, hn⟩, rfl, hpending, hstate,
    rfl, hclock, hsink, hflr⟩

theorem inPass_tickReturn (e : Bool) (h : s.Inv) (hpending : s.clk.tickPending = true) : (tickReturn e s).InPass := by
  have hflr := flr_of_inv h
  obtain ⟨hvalid, harena, hsizes, ⟨-, hproduced, -, htarget, hchunk, hn⟩, ⟨hactive, htick⟩, -,
    ⟨hlo, hhi, -, htempo, htempo', hspeed, hrem⟩, hsink, -⟩ := h
  obtain ⟨hstate, -, hleft, hfault, hsealed, hcursor⟩ := htick hpending
  have hidle : s.clk.state ≠ .idle := by simp [hstate]
  have hactive' : s.rc.rActive = true := hactive.trans hpending
  cases hend : e && !s.clk.loopSong with
  | false =>
    rw [tickReturn_keeps s e hend]
    exact ⟨hvalid, harena, hsizes, hcursor, hproduced, ⟨hleft.le, htarget, hchunk, hn⟩, hactive', rfl, hidle, hsealed,
      ⟨hlo, hhi, hhi, htempo, htempo', hspeed, hrem⟩, hsink, hflr hfault⟩
  | true =>
    rw [tickReturn_completes s e hend]
    refine ⟨hvalid, harena, hsizes, hcursor, hproduced, ⟨?_, ?_, hchunk, hn⟩, hactive', rfl, by simp, hsealed,
      ⟨hlo, hhi, hhi, htempo, htempo', hspeed, ?_⟩, hsink, hflr hfault⟩ <;> dsimp only <;> omega

/-! ### Run keeps it (R455) -/

/-- Mixing a segment changes the sizes of nothing and no register that `InPass` speaks of. -/
theorem inPass_mixSegment {i0 seg : Nat} {e : Option MixStop} (h : s.InPass) (hmix : mixSegment i0 seg s = (u, e)) :
    u.InPass ∧ u.rc = s.rc ∧ u.clk = s.clk := by
  obtain ⟨hcfg, hlast, hcursor, harena, hsealed, hclk, hsnk, hrc, hflr, -⟩ := mixSegment_frame i0 seg s
  obtain ⟨hacc, hfp, hvr⟩ := mixSegment_sizes i0 seg s
  rw [hmix] at hcfg hlast hcursor harena hsealed hclk hsnk hrc hflr hacc hfp hvr
  dsimp only at hcfg hlast hcursor harena hsealed hclk hsnk hrc hflr hacc hfp hvr
  refine ⟨⟨?_, ?_, ?_, ?_, ?_, ?_, ?_, ?_, ?_, ?_, ?_, ?_, ?_⟩, hrc, hclk⟩
  · rw [hcfg]; exact h.valid
  · rw [State.arenaLen, hcfg, harena]; exact h.arena
  · rw [hacc, hfp, hvr, hcfg]; exact h.sizes
  · rw [hcursor]; exact h.cursor
  · rw [hlast, hrc]; exact h.produced
  · rw [hrc, hcfg]; exact h.order
  · rw [hrc]; exact h.active
  · rw [hclk]; exact h.pending
  · rw [hclk]; exact h.state
  · rw [hsealed]; exact h.isSealed
  · rw [hclk]; exact h.clock
  · rw [hsnk]; exact h.sink
  · rw [hflr]; exact h.noFault

theorem inPass_countSegment {seg : Nat} (h : s.InPass) (hseg : s.rc.rProduced + seg ≤ s.rc.rTarget) :
    (s.countSegment seg).InPass := by
  obtain ⟨hlo, hhi, hrem, hclock⟩ := h.clock
  exact ⟨h.valid, h.arena, h.sizes, h.cursor, rfl, ⟨hseg, h.order.2⟩, h.active, h.pending, h.state, h.isSealed,
    ⟨hlo, hhi, (Nat.sub_le _ _).trans hrem, hclock⟩, h.sink, h.noFault⟩

theorem inPass_segment (h : s.InPass) (hu : Segment s u) : u.InPass := by
  cases hu with
  | nothing => exact h
  | mixed hgo hmix =>
    obtain ⟨hpass, hrc, -⟩ := inPass_mixSegment h hmix
    refine inPass_countSegment hpass ?_
    rw [hrc, State.segLength]
    omega

/-- After its segment Run has reached the target or the tick boundary. -/
theorem segment_done (hu : Segment s u) : u.rc.rTarget ≤ u.rc.rProduced ∨ u.clk.samplesRemainingInTick = 0 := by
  cases hu with
  | nothing hend => exact hend
  | mixed hgo hmix =>
    obtain ⟨-, -, -, -, -, hclk, -, hrc, -⟩ := mixSegment_frame s.rc.rProduced s.segLength s
    rw [hmix] at hclk hrc
    dsimp only at hclk hrc
    simpa [hclk, hrc] using segment_ends_loop s

/-- What Run does after its segment: it ends the pass at the target, or in the Completed state at the frames it has, or it requests a
tick. -/
theorem afterSegment_cases (s : State) :
    (s.rc.rTarget ≤ s.rc.rProduced ∧ afterSegment s = endPass s) ∨
      (s.rc.rProduced < s.rc.rTarget ∧ s.clk.state = .completed ∧
        afterSegment s = endPass { s with rc := { s.rc with rTarget := s.rc.rProduced } }) ∨
      (s.rc.rProduced < s.rc.rTarget ∧ s.clk.state ≠ .completed ∧ afterSegment s = tickEntry s) := by
  unfold afterSegment atBoundary
  by_cases hgo : s.rc.rProduced < s.rc.rTarget
  · by_cases hstate : s.clk.state = .completed
    · exact .inr (.inl ⟨hgo, hstate, by rw [if_pos hgo, if_pos hstate]⟩)
    · exact .inr (.inr ⟨hgo, hstate, by rw [if_pos hgo, if_neg hstate]⟩)
  · exact .inl ⟨Nat.not_lt.mp hgo, by rw [if_neg hgo]⟩

theorem inv_endPass (h : s.InPass) : (endPass s).Inv := by
  refine ⟨h.valid, h.arena, h.sizes, ⟨?_, h.produced, h.order⟩, ⟨h.pending.symm, fun hno => ?_⟩, fun _ => h.isSealed, h.clock, h.sink,
    ?_⟩
  · rw [endPass_drainPos, h.cursor]
    exact Nat.zero_le _
  · rw [endPass_clk, h.pending] at hno
    cases hno
  · rw [endPass_flr, h.noFault]
    decide

theorem inv_tickEntry (h : s.InPass) (hgo : s.rc.rProduced < s.rc.rTarget) (hstate : s.clk.state ≠ .completed)
    (hrem : s.clk.samplesRemainingInTick = 0) : (tickEntry s).Inv := by
  have hplaying : s.clk.state = .playing := by
    have hidle := h.state
    cases hs : s.clk.state <;> simp_all
  refine ⟨h.valid, h.arena, h.sizes, ⟨?_, h.produced, h.order⟩,
    ⟨h.active, fun _ => ⟨hplaying, hrem, hgo, ?_, h.isSealed, h.cursor⟩⟩, fun _ => h.isSealed, h.clock, h.sink, ?_⟩
  · rw [tickEntry_drainPos, h.cursor]
    exact Nat.zero_le _
  · rw [tickEntry_flr, h.noFault]
  · rw [tickEntry_flr, h.noFault]
    decide

theorem inv_afterSegment (h : s.InPass) (hdone : s.rc.rTarget ≤ s.rc.rProduced ∨ s.clk.samplesRemainingInTick = 0) :
    (afterSegment s).Inv := by
  rcases afterSegment_cases s with ⟨-, heq⟩ | ⟨hgo, -, heq⟩ | ⟨hgo, hstate, heq⟩
  · exact heq ▸ inv_endPass h
  · obtain ⟨hproduced, htarget, hrequested⟩ := h.order
    rw [heq]
    exact inv_endPass ⟨h.valid, h.arena, h.sizes, h.cursor, h.produced, ⟨le_refl _, hproduced.trans htarget, hrequested⟩, h.active,
      h.pending, h.state, h.isSealed, h.clock, h.sink, h.noFault⟩
  · exact heq ▸ inv_tickEntry h hgo hstate (hdone.resolve_left (Nat.not_le.mpr hgo))

theorem inv_raiseFault_freeAcc (h : s.InPass) (a : Nat) : (raiseFault .arenaRange a s.freeAcc).Inv := by
  refine ⟨h.valid, h.arena, ⟨?_, h.sizes.2⟩, ⟨?_, h.produced, h.order⟩, ⟨rfl, fun hno => ?_⟩, fun _ => h.isSealed, h.clock, h.sink,
    by simp, by simp, ?_⟩
  · simpa [State.freeAcc] using h.sizes.1
  · exact h.cursor ▸ Nat.zero_le _
  · exact absurd hno (by simp)
  · rw [raiseFault_flr]
    dsimp only
    omega

theorem inv_of_runs (h : s.InPass) (hrun : Runs s t) : t.Inv := by
  cases hrun with
  | ended hu => exact inv_afterSegment (inPass_segment h hu) (segment_done hu)
  | faulted hgo hmix => exact inv_raiseFault_freeAcc (inPass_mixSegment h hmix).1 _

/-! ### Every command keeps it -/

theorem inv_initRegisters (h : s.Inv) (hpending : s.clk.tickPending = false) :
    s.initRegisters.Inv := by
  obtain ⟨hvalid, harena, ⟨hacc, -, -⟩, -, -, -, ⟨-, -, -, htempo, htempo', hspeed, -⟩, ⟨hsink, -⟩, hflr⟩ := h
  have hspt : 1 ≤ s.initRegisters.clk.samplesPerTick ∧ s.initRegisters.clk.samplesPerTick ≤ 110250 := by
    unfold State.initRegisters
    cases s.cfg.backend with
    | fp => cases hv : s.cfg.video <;> simp [Config.fpPresetSpt, hv]
    | vr => exact tempoBase_div_bounds htempo htempo'
  refine ⟨hvalid, harena, ⟨by simpa using hacc, rfl, rfl⟩, ?_, ⟨hpending.symm, fun hno => absurd (hpending.symm.trans hno) (by decide)⟩,
    fun hno => absurd rfl hno, ⟨hspt.1, hspt.2, ?_, htempo, htempo', hspeed, ?_⟩, ⟨hsink, ?_⟩, hflr⟩ <;> simp [State.initRegisters]

theorem inv_drainFrames {n : Nat} (h : s.Inv) (hpending : s.clk.tickPending = false) (hrange : n ≤ s.undrained) (hn : n < 2 ^ 32) :
    (s.drainFrames n).Inv := by
  obtain ⟨hvalid, harena, ⟨hacc, hbanks⟩, ⟨hcursor, horder⟩, ⟨hactive, -⟩, hsealed, hclock, ⟨hsink, -⟩, hflr⟩ := h
  have hcount : s.drainCount n ≤ n := Nat.min_le_left _ _
  refine ⟨hvalid, harena, ⟨?_, hbanks⟩, ⟨?_, horder⟩, ⟨hactive, fun hno => absurd (hpending.symm.trans hno) (by decide)⟩, hsealed,
    hclock, ⟨?_, ?_⟩, hflr⟩
  · rw [drainFrames_acc, putFrames_length _ _ _ _ (by simp), drainFrames_cfg, hacc]
  · rw [drainFrames_drainPos, drainFrames_lastProduced]
    unfold State.undrained at hrange
    omega
  · rw [drainFrames_snk]
    dsimp only
    omega
  · rw [drainFrames_snk]
    dsimp only
    omega

theorem inv_raiseFault_numeric (h : s.Inv) (i : Nat) : (raiseFault .numeric i s).Inv := by
  obtain ⟨hvalid, harena, hsizes, horder, -, hsealed, hclock, hsink, -⟩ := h
  refine ⟨hvalid, harena, hsizes, horder, ⟨rfl, fun hno => absurd hno (by simp)⟩, hsealed, hclock, hsink, by simp, by simp, ?_⟩
  rw [raiseFault_flr]
  dsimp only
  omega

theorem inv_of_does {i : Instr} (h : s.Inv) (hdoes : Does s i t) : t.Inv := by
  have hinv := h
  obtain ⟨hvalid, ⟨hwf, hlen⟩, ⟨hacc, hfp, hvr⟩, horder, htick, hsealed,
    ⟨hlo, hhi, hrem, htempo, htempo', hspeed, hafter⟩, ⟨hsink, hshort⟩, hflr⟩ := h
  cases hdoes with
  | refused | reported => exact hinv
  | fpWrote => exact ⟨hvalid, ⟨hwf, hlen⟩, ⟨hacc, by simpa using hfp, hvr⟩, horder, htick, hsealed,
      ⟨hlo, hhi, hrem, htempo, htempo', hspeed, hafter⟩, ⟨hsink, hshort⟩, hflr⟩
  | vrWrote => exact ⟨hvalid, ⟨hwf, hlen⟩, ⟨hacc, hfp, by simpa using hvr⟩, horder, htick, hsealed,
      ⟨hlo, hhi, hrem, htempo, htempo', hspeed, hafter⟩, ⟨hsink, hshort⟩, hflr⟩
  | reset => exact inv_powerOn hvalid
  | init d hfault hpending => exact inv_initRegisters hinv hpending
  | rendered d hfault hpending hstate hchunk hrun =>
    exact inv_of_runs (inPass_startPass hinv hfault hpending hstate hchunk d.isLt) hrun
  | ticked d hd hfault hpending hrun => exact inv_of_runs (inPass_tickReturn _ hinv hpending) hrun
  | foundNaN d j => exact inv_raiseFault_numeric hinv j
  | drained d hfault hpending hrange => exact inv_drainFrames hinv hpending hrange d.isLt
  | setsink d => exact ⟨hvalid, ⟨hwf, hlen⟩, ⟨hacc, hfp, hvr⟩, horder, htick, hsealed,
      ⟨hlo, hhi, hrem, htempo, htempo', hspeed, hafter⟩, ⟨d.isLt, hshort⟩, hflr⟩
  | stored d hopen hroom => exact ⟨hvalid, ⟨append_wf _ _ hwf, by simpa [State.arenaLen] using hroom⟩, ⟨hacc, hfp, hvr⟩, horder, htick,
      hsealed, ⟨hlo, hhi, hrem, htempo, htempo', hspeed, hafter⟩, ⟨hsink, hshort⟩, hflr⟩
  | settempo d hd hd' => exact ⟨hvalid, ⟨hwf, hlen⟩, ⟨hacc, hfp, hvr⟩, horder, htick, hsealed,
      ⟨(tempoBase_div_bounds hd hd').1, (tempoBase_div_bounds hd hd').2, hrem, hd, hd', hspeed, hafter⟩, ⟨hsink, hshort⟩, hflr⟩
  | setspeed d hd => exact ⟨hvalid, ⟨hwf, hlen⟩, ⟨hacc, hfp, hvr⟩, horder, htick, hsealed,
      ⟨hlo, hhi, hrem, htempo, htempo', hd, hafter⟩, ⟨hsink, hshort⟩, hflr⟩
  | setloop | setled => exact hinv

/-- Settles O20: what each command does keeps the invariant, through the state of the pass for the two that mix. -/
theorem stepKeepsRegisterInvariant : Obligations.StepKeepsRegisterInvariant := by
  intro s t h hstep
  rcases step_next_cases hstep with rfl | ⟨c, rest, -, ⟨e, -, rfl⟩ | ⟨i, -, hdoes⟩⟩
  · exact h
  · exact h
  · exact inv_of_does (s := s.takeCommand c rest) h hdoes

/-! ### The cleared entries (R46) -/

/-- During a pass the entries from the produced ones on are cleared. -/
def State.PassClear (s : State) : Prop := ∀ i, i < s.acc.length → s.rc.rProduced ≤ i → s.acc[i]? = some Frame.zero

theorem passClear_startPass (s : State) (n : Nat) : (s.startPass n).PassClear := by
  intro i hi _
  have hs : i < s.acc.length := by simpa using hi
  simp [hs]

theorem passClear_segment (h : s.PassClear) (hu : Segment s u) : u.PassClear := by
  cases hu with
  | nothing => exact h
  | mixed hgo hmix =>
    obtain ⟨-, -, -, -, -, -, -, hrc, -⟩ := mixSegment_frame s.rc.rProduced s.segLength s
    obtain ⟨hacc, -⟩ := mixSegment_sizes s.rc.rProduced s.segLength s
    intro i hi hle
    have hout := mixSegment_acc_outside (s := s) (i0 := s.rc.rProduced) (seg := s.segLength) (k := i)
    rw [hmix] at hrc hacc hout
    dsimp only at hrc hacc hout
    simp only [countSegment_acc, countSegment_rc, hacc, hrc] at hi hle ⊢
    rw [hout (.inr hle)]
    exact h i hi (by omega)

theorem accClear_afterSegment (h : s.PassClear) (hpass : s.InPass) : (afterSegment s).AccClear := by
  have hclear : ∀ i, i < s.acc.length → i < s.drainPos ∨ s.lastProduced ≤ i → s.acc[i]? = some Frame.zero := by
    intro i hi hout
    rw [hpass.cursor, hpass.produced] at hout
    exact h i hi (hout.resolve_left (Nat.not_lt_zero i))
  rcases afterSegment_cases s with ⟨-, heq⟩ | ⟨-, -, heq⟩ | ⟨-, -, heq⟩ <;> exact heq ▸ fun _ => hclear

theorem accClear_of_runs (h : s.PassClear) (hpass : s.InPass) (hrun : Runs s t) : t.AccClear := by
  cases hrun with
  | ended hu => exact accClear_afterSegment (passClear_segment h hu) (inPass_segment hpass hu)
  | faulted => exact fun hno => absurd hno (by simp)

theorem passClear_tickReturn (e : Bool) (h : s.Inv) (hclear : s.AccClear) (hfault : s.flr.fault = false) :
    (tickReturn e s).PassClear := by
  obtain ⟨-, -, -, ⟨-, hproduced, -⟩, -⟩ := h
  have hrc : (tickReturn e s).rc.rProduced = s.rc.rProduced := by
    cases hend : e && !s.clk.loopSong with
    | false => rw [tickReturn_keeps s e hend]
    | true => rw [tickReturn_completes s e hend]
  intro i hi hle
  rw [tickReturn_acc] at hi ⊢
  exact hclear hfault i hi (.inr (by omega))

/-- DRAIN clears the entries it moves over. -/
theorem accClear_drainFrames (n : Nat) (h : s.AccClear) : (s.drainFrames n).AccClear := by
  intro hfault i hi hout
  obtain ⟨hlength, hin, houtside⟩ := putFrames_reads s.acc s.drainPos (s.drainCount n)
    ((framesAt s.acc s.drainPos (s.drainCount n)).map fun _ => Frame.zero) (by simp)
  rw [drainFrames_acc] at hi ⊢
  rw [hlength] at hi
  rw [drainFrames_drainPos, drainFrames_lastProduced] at hout
  by_cases hk : i < s.drainPos ∨ s.drainPos + s.drainCount n ≤ i
  · rw [houtside i hk]
    exact h hfault i hi (by omega)
  · obtain ⟨j, rfl⟩ := Nat.exists_eq_add_of_le (show s.drainPos ≤ i by omega)
    refine hin j Frame.zero ?_
    have hj : j < min (s.drainCount n) (s.acc.length - s.drainPos) := by omega
    rw [List.map_const', framesAt_length, List.getElem?_replicate, if_pos hj]

theorem accClear_of_does {i : Instr} (hinv : s.Inv) (h : s.AccClear) (hdoes : Does s i t) : t.AccClear := by
  cases hdoes with
  | reset => exact accClear_powerOn s.cfg
  | init =>
    intro _ i hi _
    have hs : i < s.acc.length := by simpa using hi
    simp [hs]
  | rendered d hfault hpending hstate hchunk hrun =>
    exact accClear_of_runs (passClear_startPass s _) (inPass_startPass hinv hfault hpending hstate hchunk d.isLt) hrun
  | ticked d hd hfault hpending hrun =>
    exact accClear_of_runs (passClear_tickReturn _ hinv h hfault) (inPass_tickReturn _ hinv hpending) hrun
  | foundNaN => exact fun hno => absurd hno (by simp)
  | drained d => exact accClear_drainFrames d.toNat h
  | refused | fpWrote | vrWrote | setsink | stored | settempo | setspeed | setloop | setled | reported => exact h

end

/-- Settles O21: RENDER and INIT clear every entry, a segment writes below the produced frames, and DRAIN clears what it drains. -/
theorem stepKeepsAccumulatorClear : Obligations.StepKeepsAccumulatorClear := by
  intro s t hinv h hstep
  rcases step_next_cases hstep with rfl | ⟨c, rest, -, ⟨e, -, rfl⟩ | ⟨i, -, hdoes⟩⟩
  · exact h
  · exact h
  · exact accClear_of_does (s := s.takeCommand c rest) hinv h hdoes

/-! ### The tick budget after SET_TEMPO (log 17) -/

/-- A new instance with a full tick to go, about to be told the fastest tempo. -/
def fullTick : State :=
  let s := State.powerOn Config.sample
  { s with
    clk := { s.clk with samplesRemainingInTick := 882 }
    port := { s.port with inbox := [⟨0x08000000#32, 65535#32, [], 0⟩] } }

/-- Refutes O25: SET_TEMPO lowers the tick to 1 sample and leaves the 882 that are left of it. -/
theorem not_tickBudgetStaysWithinTick : ¬ Obligations.TickBudgetStaysWithinTick := by
  intro h
  have hinv : fullTick.Inv := by decide
  have hstep : step fullTick =
      .next { fullTick with
        clk := { fullTick.clk with tempo := 65535, samplesPerTick := 1 }
        port := { fullTick.port with inbox := [], results := [⟨.ok, 0#32⟩] } } := by rfl
  exact absurd (h fullTick _ hinv (by decide) hstep) (by decide)

end Sys2Proof.Machine

/-! The rules of the whole machine, read off what each command does (R82, R101, R145, R457, R552, R605, R611), and the obligations O9
and O11 to O15. -/

namespace Sys2Proof.Machine

section
variable {s t u : State} {i : Instr}

/-! ### What a pass leaves alone -/

theorem segment_frame (h : Segment s u) :
    u.cfg = s.cfg ∧ u.arena = s.arena ∧ u.isSealed = s.isSealed ∧ u.snk = s.snk ∧ u.flr = s.flr ∧ u.port = s.port ∧
      u.flt.ledActive = s.flt.ledActive ∧ u.flt.ledForced = s.flt.ledForced ∧ u.clk.state = s.clk.state ∧
      u.clk.loopSong = s.clk.loopSong ∧ u.clk.tickPending = s.clk.tickPending ∧ u.rc.rActive = s.rc.rActive := by
  cases h with
  | nothing => simp
  | mixed hgo hmix =>
    obtain ⟨hcfg, -, -, harena, hsealed, hclk, hsnk, hrc, hflr, hport, -, hactive, hforced⟩ :=
      mixSegment_frame s.rc.rProduced s.segLength s
    rw [hmix] at hcfg harena hsealed hclk hsnk hrc hflr hport hactive hforced
    dsimp only at hcfg harena hsealed hclk hsnk hrc hflr hport hactive hforced
    simp [hcfg, harena, hsealed, hclk, hsnk, hrc, hflr, hport, hactive, hforced]

/-- A pass changes no parameter, no stored byte, no sink register and none of the flags but the tick request and the fault. -/
theorem runs_frame (h : Runs s t) :
    t.cfg = s.cfg ∧ t.arena = s.arena ∧ t.isSealed = s.isSealed ∧ t.snk = s.snk ∧ t.flt.ledActive = s.flt.ledActive ∧
      t.flt.ledForced = s.flt.ledForced ∧ t.clk.state = s.clk.state ∧ t.clk.loopSong = s.clk.loopSong ∧
      ∃ r, t.port = { s.port with results := s.port.results ++ [r] } := by
  cases h with
  | @ended u hu =>
    obtain ⟨hcfg, harena, hsealed, hsnk, -, hport, hactive, hforced, hstate, hloop, -⟩ := segment_frame hu
    rcases afterSegment_cases u with ⟨-, heq⟩ | ⟨-, -, heq⟩ | ⟨-, -, heq⟩ <;>
      simp [heq, hcfg, harena, hsealed, hsnk, hport, hactive, hforced, hstate, hloop]
  | faulted hgo hmix =>
    obtain ⟨hcfg, -, -, harena, hsealed, hclk, hsnk, -, -, hport, -, hactive, hforced⟩ :=
      mixSegment_frame s.rc.rProduced s.segLength s
    rw [hmix] at hcfg harena hsealed hclk hsnk hport hactive hforced
    dsimp only at hcfg harena hsealed hclk hsnk hport hactive hforced
    simp [hcfg, harena, hsealed, hclk, hsnk, hport, hactive, hforced]

/-- How a pass answers: `OK`, a tick request, or a fault (R455, R605, R611). -/
theorem runs_answer (h : Runs s t) :
    (t.flr = s.flr ∧ t.clk.tickPending = s.clk.tickPending ∧ ∃ w, t.port.results = s.port.results ++ [⟨.ok, w⟩]) ∨
      (t.flr = s.flr ∧ t.clk.tickPending = true ∧ t.port.results = s.port.results ++ [⟨.tick, value t.rc.rProduced⟩]) ∨
      ((∃ a, t.flr = ⟨true, .arenaRange, min a 0xFFFFFFFF⟩) ∧ t.clk.tickPending = false ∧ t.rc.rActive = false ∧
        t.port.results = s.port.results ++ [⟨.faulted, 0⟩]) := by
  cases h with
  | @ended u hu =>
    obtain ⟨-, -, -, -, hflr, hport, -, -, -, -, hpending, -⟩ := segment_frame hu
    rcases afterSegment_cases u with ⟨-, heq⟩ | ⟨-, -, heq⟩ | ⟨-, -, heq⟩
    · exact .inl (by simp [heq, hflr, hport, hpending])
    · exact .inl (by simp [heq, hflr, hport, hpending])
    · exact .inr (.inl (by simp [heq, hflr, hport]))
  | faulted hgo hmix =>
    obtain ⟨-, -, -, -, -, -, -, -, -, hport, -⟩ := mixSegment_frame s.rc.rProduced s.segLength s
    rw [hmix] at hport
    dsimp only at hport
    exact .inr (.inr ⟨⟨_, rfl⟩, by simp, by simp, by simp [hport]⟩)

/-! ### The host's side (R101, R109, R145) -/

theorem does_port (h : Does s i t) :
    t.port.inbox = s.port.inbox ∧ t.cfg = s.cfg ∧ (∃ r, t.port.results = s.port.results ++ [r]) ∧
      ∃ out, t.port.pcm = s.port.pcm ++ out ∧ ((∀ d, i ≠ .drain d) → out = []) := by
  cases h with
  | rendered d hfault hpending hstate hchunk hrun =>
    obtain ⟨hcfg, -, -, -, -, -, -, -, r, hport⟩ := runs_frame hrun
    exact ⟨by simp [hport], hcfg, ⟨r, by simp [hport]⟩, [], by simp [hport], fun _ => rfl⟩
  | ticked d hd hfault hpending hrun =>
    obtain ⟨hcfg, -, -, -, -, -, -, -, r, hport⟩ := runs_frame hrun
    exact ⟨by simp [hport], by simp [hcfg], ⟨r, by simp [hport]⟩, [], by simp [hport], fun _ => rfl⟩
  | drained d =>
    exact ⟨rfl, rfl, ⟨⟨.ok, value (s.drainCount d.toNat)⟩, by simp⟩, _, by rw [reply_port, drainFrames_port], fun hno => absurd rfl (hno d)⟩
  | refused | fpWrote | vrWrote | reset | init | foundNaN | setsink | stored | settempo | setspeed | setloop | setled | reported =>
    exact ⟨rfl, rfl, ⟨_, rfl⟩, [], (List.append_nil _).symm, fun _ => rfl⟩

/-- Only the opcode 0x05 decodes to DRAIN. -/
theorem not_drain_of_opcode {b : Backend} {cmd data : Word} (hdecode : decode b cmd data = .ok i)
    (hop : (cmd.extractLsb' 24 8).toNat ≠ 0x05) (d : Word) : i ≠ .drain d := by
  rintro rfl
  have hpair := encode_of_decode hdecode
  rw [encode, Prod.mk.injEq] at hpair
  obtain ⟨hcmd, -⟩ := hpair
  rw [extractLsb'_op, ← hcmd, cmdOp_cmdWord 0x05 0 (by decide)] at hop
  exact hop rfl

/-- Settles O9: each command returns one result from the state that took it, and only what DRAIN does reaches the PCM port. -/
theorem everyCommandAnswersOnce : Obligations.EveryCommandAnswersOnce := by
  intro s t c rest hinbox hstep
  unfold step at hstep
  rw [hinbox] at hstep
  dsimp only at hstep
  split at hstep
  · cases hstep
    exact ⟨rfl, rfl, ⟨_, rfl⟩, [], (List.append_nil _).symm, fun _ => rfl⟩
  next i hdecode =>
    obtain ⟨hin, hcfg, hresult, out, hpcm, hout⟩ := does_port (does_exec hstep)
    exact ⟨hin, hcfg, hresult, out, hpcm, fun hop => hout (not_drain_of_opcode hdecode hop)⟩

/-! ### The Completed state (R457) -/

theorem opBool_eq_true {d : Word} (h : opBool d = some true) : d = 1#32 := by
  unfold opBool at h
  split at h
  · assumption
  · split at h <;> cases h

/-- A tick return completes the song on a song end that is not suppressed, and else keeps the clock's state (R456). -/
theorem tickReturn_state (e : Bool) (s : State) :
    (tickReturn e s).clk.loopSong = s.clk.loopSong ∧
      (((tickReturn e s).clk.state = s.clk.state) ∨ (e = true ∧ s.clk.loopSong = false ∧ (tickReturn e s).clk.state = .completed)) := by
  cases hend : e && !s.clk.loopSong with
  | false =>
    rw [tickReturn_keeps s e hend]
    exact ⟨rfl, .inl rfl⟩
  | true =>
    rw [tickReturn_completes s e hend]
    simp only [Bool.and_eq_true, Bool.not_eq_true'] at hend
    exact ⟨rfl, .inr ⟨hend.1, hend.2, rfl⟩⟩

/-- Settles O11: of all that commands do, only INIT, RESET and a tick return touch the clock's state. -/
theorem completedEnteredAndLeft : Obligations.CompletedEnteredAndLeft := by
  intro s t i hexec
  cases does_exec hexec with
  | rendered d hfault hpending hstate hchunk hrun =>
    obtain ⟨-, -, -, -, -, -, hst, hloop, -⟩ := runs_frame hrun
    simp only [startPass_clk] at hst hloop
    exact ⟨fun h h' => absurd (hst.symm.trans h') h, fun h h' => absurd (hst.trans h) h',
      fun h h' => absurd (hloop.symm.trans h') (by simp [h])⟩
  | @ticked _ d e hd hfault hpending hrun =>
    obtain ⟨-, -, -, -, -, -, hst, hloop, -⟩ := runs_frame hrun
    obtain ⟨hloop', hcases⟩ := tickReturn_state e s
    refine ⟨fun h h' => ?_, fun h h' => ?_, fun h h' => absurd ((hloop.trans hloop').symm.trans h') (by simp [h])⟩
    · rcases hcases with hsame | ⟨rfl, hsong, -⟩
      · exact absurd ((hst.trans hsame).symm.trans h') h
      · exact ⟨by rw [opBool_eq_true hd], hpending, hsong, hfault⟩
    · rcases hcases with hsame | ⟨-, -, hdone⟩
      · exact absurd ((hst.trans hsame).trans h) h'
      · exact absurd (hst.trans hdone) h'
  | reset d => exact ⟨fun _ h' => absurd h' (by simp [State.powerOn]), fun _ _ => .inr ⟨d, rfl⟩, fun _ _ => .inr ⟨d, rfl⟩⟩
  | init d => exact ⟨fun _ h' => absurd h' (by simp [State.initRegisters]), fun _ _ => .inl ⟨d, rfl⟩, fun h h' => absurd (h.symm.trans h') (by decide)⟩
  | setloop d => exact ⟨fun h h' => absurd h' h, fun h h' => absurd h h', fun _ _ => .inl ⟨d, rfl⟩⟩
  | refused | fpWrote | vrWrote | foundNaN | drained | setsink | stored | settempo | setspeed | setled | reported =>
    exact ⟨fun h h' => absurd h' h, fun h h' => absurd h h', fun h h' => absurd (h.symm.trans h') (by decide)⟩

/-! ### The arena (R47, R48, R552) -/

/-- What stays when a command keeps the arena and does not unseal it. -/
theorem arena_kept (hsealed : s.isSealed = true → t.isSealed = true) (h : t.arena = s.arena) :
    (s.isSealed = true → t.isSealed = true) ∧
    (∀ a b, s.arena.read a = some b → t.arena.read a = some b) ∧ s.arenaLen ≤ t.arenaLen ∧
    (t.arena ≠ s.arena → s.isSealed = false ∧ ∃ d, i = .store d) :=
  ⟨hsealed, fun a b hread => h ▸ hread, by rw [State.arenaLen, State.arenaLen, h], fun hne => absurd h hne⟩

/-- Settles O12: STORE appends, and every command but RESET leaves the arena and the seal otherwise. -/
theorem arenaOnlyGrowsUntilReset : Obligations.ArenaOnlyGrowsUntilReset := by
  intro s t i hexec hreset
  cases does_exec hexec with
  | reset d => exact absurd rfl (hreset d)
  | stored d hopen =>
    refine ⟨id, fun a b hread => ?_, ?_, fun _ => ⟨hopen, d, rfl⟩⟩
    · rw [reply_arena, Memory.append, read_append_cells, hread]
    · simp [State.arenaLen]
  | rendered d hfault hpending hstate hchunk hrun =>
    obtain ⟨-, harena, hsealed, -⟩ := runs_frame hrun
    exact arena_kept (fun _ => hsealed) harena
  | ticked d hd hfault hpending hrun =>
    obtain ⟨-, harena, hsealed, -⟩ := runs_frame hrun
    simp only [tickReturn_arena, tickReturn_isSealed] at harena hsealed
    exact arena_kept hsealed.trans harena
  | refused | fpWrote | vrWrote | init | foundNaN | drained | setsink | settempo | setspeed | setloop | setled | reported =>
    exact arena_kept id rfl

/-! ### Where a fault comes from (R605, R606, R506) -/

/-- Settles O13: RENDER and TICK_DONE raise a fault by an arena read, DRAIN by a NaN, and no other command writes the fault registers. -/
theorem faultsRaisedOnlyByMixingAndDrain : Obligations.FaultsRaisedOnlyByMixingAndDrain := by
  intro s t i hexec hreset hflr
  cases does_exec hexec with
  | reset d => exact absurd rfl (hreset d)
  | foundNaN d j hfault => exact ⟨hfault, rfl, by simp, rfl, rfl, rfl, .inr ⟨⟨d, rfl⟩, rfl⟩⟩
  | rendered d hfault hpending hstate hchunk hrun =>
    rcases runs_answer hrun with ⟨hsame, -⟩ | ⟨hsame, -⟩ | ⟨⟨a, hraised⟩, hend, hinactive, hresults⟩
    · exact absurd hsame hflr
    · exact absurd hsame hflr
    · rw [hraised]
      exact ⟨hfault, rfl, by dsimp only; omega, hend, hinactive, hresults, .inl ⟨.inl ⟨d, rfl⟩, rfl⟩⟩
  | ticked d hd hfault hpending hrun =>
    rcases runs_answer hrun with ⟨hsame, -⟩ | ⟨hsame, -⟩ | ⟨⟨a, hraised⟩, hend, hinactive, hresults⟩
    · exact absurd (hsame.trans (tickReturn_flr s _)) hflr
    · exact absurd (hsame.trans (tickReturn_flr s _)) hflr
    · rw [hraised]
      exact ⟨hfault, rfl, by dsimp only; omega, hend, hinactive, by simpa using hresults, .inl ⟨.inr ⟨d, rfl⟩, rfl⟩⟩
  | refused | fpWrote | vrWrote | init | drained | setsink | stored | settempo | setspeed | setloop | setled | reported =>
    exact absurd rfl hflr

/-! ### Tick entry (R611, R612) -/

/-- TICK is the answer of a pass only, and it sets the request. -/
theorem tick_of_does (h : Does s i t) {w : Word} (hresults : t.port.results = s.port.results ++ [⟨.tick, w⟩]) :
    ((∃ d, i = .render d) ∨ ∃ d, i = .tickdone d) ∧ t.clk.tickPending = true ∧ w = value t.rc.rProduced := by
  have hruns {p : State} (hport : p.port = s.port) (hrun : Runs p t) : t.clk.tickPending = true ∧ w = value t.rc.rProduced := by
    rw [← hport] at hresults
    rcases runs_answer hrun with ⟨-, -, w', hok⟩ | ⟨-, hpending, htick⟩ | ⟨-, -, -, hfaulted⟩
    · exact absurd (result_unique (hresults.symm.trans hok)).1 (by decide)
    · exact ⟨hpending, (result_unique (hresults.symm.trans htick)).2⟩
    · exact absurd (result_unique (hresults.symm.trans hfaulted)).1 (by decide)
  cases h with
  | refused st hok htick => exact absurd (result_unique hresults).1 htick
  | rendered d hfault hpending hstate hchunk hrun => exact ⟨.inl ⟨d, rfl⟩, hruns (startPass_port s _) hrun⟩
  | ticked d hd hfault hpending hrun => exact ⟨.inr ⟨d, rfl⟩, hruns (tickReturn_port s _) hrun⟩
  | fpWrote | vrWrote | reset | init | foundNaN | drained | setsink | stored | settempo | setspeed | setloop | setled | reported =>
    exact absurd (result_unique hresults).1 (by decide)

/-- From no request to a request is the way of a RENDER that answers TICK. -/
theorem tickPending_set_by_render (h : Does s i t) (hclear : s.clk.tickPending = false) (hset : t.clk.tickPending = true) :
    (∃ d, i = .render d) ∧ ∃ w, t.port.results = s.port.results ++ [⟨.tick, w⟩] := by
  cases h with
  | rendered d hfault hpending hstate hchunk hrun =>
    refine ⟨⟨d, rfl⟩, ?_⟩
    rcases runs_answer hrun with ⟨-, hsame, -⟩ | ⟨-, -, htick⟩ | ⟨-, hend, -⟩
    · exact absurd (hset.symm.trans (hsame.trans hclear)) (by decide)
    · exact ⟨_, htick⟩
    · exact absurd (hset.symm.trans hend) (by decide)
  | ticked d hd hfault hpending => exact absurd (hclear.symm.trans hpending) (by decide)
  | reset | foundNaN => exact absurd hset (by simp [State.powerOn])
  | init => exact absurd (hset.symm.trans hclear) (by decide)
  | refused | fpWrote | vrWrote | drained | setsink | stored | settempo | setspeed | setloop | setled | reported =>
    exact absurd (hset.symm.trans hclear) (by decide)

/-- Settles O14: a pass answers TICK, and the invariant it keeps says where a request stands. -/
theorem tickEntryIsPrecise : Obligations.TickEntryIsPrecise := by
  intro s t i hinv hexec
  have hdoes := does_exec hexec
  refine ⟨fun w hresults => ?_, tickPending_set_by_render hdoes, fun hpending d => ?_⟩
  · obtain ⟨hi, hpending, rfl⟩ := tick_of_does hdoes hresults
    obtain ⟨-, -, -, ⟨-, hproduced, -, htarget, -, hrequested⟩, ⟨hactive, htick⟩, -⟩ := inv_of_does hinv hdoes
    obtain ⟨hstate, hrem, hleft, -⟩ := htick hpending
    refine ⟨hi, hpending, hactive.trans hpending, hrem, hleft, hproduced, hstate, ?_⟩
    rw [value, BitVec.toNat_ofNat, Nat.mod_eq_of_lt (by omega)]
  · obtain ⟨-, -, -, -, ⟨-, htick⟩, -⟩ := hinv
    obtain ⟨-, -, -, hfault, -⟩ := htick hpending
    exact exec_render_refuses (by simp [renderChecks, firstError, hfault, hpending])

/-! ### The flags' writers (R82) -/

/-- Settles O15: the flags each command writes. -/
theorem flagsHaveOnlyTheirWriters : Obligations.FlagsHaveOnlyTheirWriters := by
  intro s t i hexec hreset
  cases does_exec hexec with
  | reset d => exact absurd rfl (hreset d)
  | init d =>
    exact ⟨fun _ => .inl ⟨d, rfl⟩, fun hne => absurd rfl hne, fun hne => absurd rfl hne, fun hne => absurd rfl hne,
      fun hne => absurd rfl hne, fun hne => absurd hne (by simp), fun _ => .inl ⟨d, rfl⟩⟩
  | rendered d hfault hpending hstate hchunk hrun =>
    obtain ⟨-, -, -, hsnk, hactive, hforced, hst, hloop, -⟩ := runs_frame hrun
    exact ⟨fun hne => absurd hst hne, fun _ => .inl ⟨d, rfl⟩, fun _ => .inl ⟨d, rfl⟩, fun _ => ⟨d, rfl⟩,
      fun hne => absurd hloop hne, fun hne => absurd hne (by simp [hactive, hforced]),
      fun hne => absurd (congrArg Drain.sinkFull hsnk) hne⟩
  | @ticked _ d e hd hfault hpending hrun =>
    obtain ⟨-, -, hsealed, hsnk, hactive, hforced, -, hloop, -⟩ := runs_frame hrun
    simp only [tickReturn_isSealed, tickReturn_snk, tickReturn_flt] at hsealed hsnk hactive hforced
    exact ⟨fun _ => .inr ⟨d, rfl⟩, fun _ => .inr ⟨d, rfl⟩, fun _ => .inr (.inl ⟨d, rfl⟩), fun hne => absurd hsealed hne,
      fun hne => absurd (hloop.trans (tickReturn_state e s).1) hne, fun hne => absurd hne (by simp [hactive, hforced]),
      fun hne => absurd (congrArg Drain.sinkFull hsnk) hne⟩
  | foundNaN d j hfault hpending =>
    exact ⟨fun hne => absurd rfl hne, fun hne => absurd hpending.symm hne, fun _ => .inr (.inr ⟨d, rfl⟩), fun hne => absurd rfl hne,
      fun hne => absurd rfl hne, fun hne => absurd hne (by simp), fun hne => absurd rfl hne⟩
  | drained d =>
    exact ⟨fun hne => absurd rfl hne, fun hne => absurd rfl hne, fun hne => absurd rfl hne, fun hne => absurd rfl hne,
      fun hne => absurd rfl hne, fun hne => absurd hne (by simp), fun _ => .inr ⟨d, rfl⟩⟩
  | setloop d =>
    exact ⟨fun hne => absurd rfl hne, fun hne => absurd rfl hne, fun hne => absurd rfl hne, fun hne => absurd rfl hne,
      fun _ => ⟨d, rfl⟩, fun hne => absurd hne (by simp), fun hne => absurd rfl hne⟩
  | setled d =>
    exact ⟨fun hne => absurd rfl hne, fun hne => absurd rfl hne, fun hne => absurd rfl hne, fun hne => absurd rfl hne,
      fun hne => absurd rfl hne, fun _ => ⟨d, rfl⟩, fun hne => absurd rfl hne⟩
  | refused | fpWrote | vrWrote | setsink | stored | settempo | setspeed | reported =>
    exact ⟨fun hne => absurd rfl hne, fun hne => absurd rfl hne, fun hne => absurd rfl hne, fun hne => absurd rfl hne,
      fun hne => absurd rfl hne, fun hne => absurd hne (by simp), fun hne => absurd rfl hne⟩

end

end Sys2Proof.Machine

/-! The magnitudes of NUM by their patterns, and the rounding by its nearest magnitude (R11). The obligations O58, O59 and O60. -/

namespace Sys2Proof.NUM

/-! ### Magnitude patterns -/

/-- The units of 2^−149 that a 31-bit magnitude pattern stands for; a pattern past that of infinity goes on in the same way, so that
the rounding can be stated without its overflow. -/
def magUnits (m : Nat) : Nat := if m / 2 ^ 23 = 0 then m else (2 ^ 23 + m % 2 ^ 23) * 2 ^ (m / 2 ^ 23 - 1)

/-- A pattern built from an exponent and a significand of at most 24 bits, all 24 of them unless the exponent is 0. -/
theorem magUnits_of_significand {k q : Nat} (hq : q ≤ 2 ^ 24) (hk : k = 0 ∨ 2 ^ 23 ≤ q) : magUnits (k * 2 ^ 23 + q) = q * 2 ^ k := by
  unfold magUnits
  obtain hlt | ⟨hge, hlt⟩ | heq : q < 2 ^ 23 ∨ (2 ^ 23 ≤ q ∧ q < 2 ^ 24) ∨ q = 2 ^ 24 := by omega
  · obtain rfl : k = 0 := by omega
    rw [if_pos (by omega)]
    simp
  · have hdiv : (k * 2 ^ 23 + q) / 2 ^ 23 = k + 1 := by omega
    have hmod : 2 ^ 23 + (k * 2 ^ 23 + q) % 2 ^ 23 = q := by omega
    rw [hdiv, hmod, if_neg (by omega), Nat.add_sub_cancel]
  · subst heq
    have hdiv : (k * 2 ^ 23 + 2 ^ 24) / 2 ^ 23 = k + 2 := by omega
    have hmod : (k * 2 ^ 23 + 2 ^ 24) % 2 ^ 23 = 0 := by omega
    rw [hdiv, hmod, if_neg (by omega), Nat.add_zero, show k + 2 - 1 = k + 1 by omega, pow_succ 2 k]
    ring

/-- Every pattern has an exponent and a significand. -/
theorem exists_significand (m : Nat) : ∃ k q, m = k * 2 ^ 23 + q ∧ q < 2 ^ 24 ∧ (k = 0 ∨ 2 ^ 23 ≤ q) := by
  by_cases h : m / 2 ^ 23 = 0
  · exact ⟨0, m, by omega, by omega, .inl rfl⟩
  · exact ⟨m / 2 ^ 23 - 1, 2 ^ 23 + m % 2 ^ 23, by omega, by omega, by omega⟩

/-- The magnitudes are ordered as their patterns are. -/
theorem magUnits_strictMono : StrictMono magUnits := by
  refine strictMono_nat_of_lt_succ fun m => ?_
  obtain ⟨k, q, rfl, hq, hk⟩ := exists_significand m
  rw [magUnits_of_significand hq.le hk, Nat.add_assoc, magUnits_of_significand (by omega) (by omega)]
  exact Nat.mul_lt_mul_of_pos_right (Nat.lt_succ_self q) (Nat.two_pow_pos k)

/-- The pattern of infinity stands for 2^277 units, the first magnitude that is not finite. -/
theorem magUnits_inf : magUnits 0x7F800000 = 2 ^ 24 * 2 ^ 253 :=
  magUnits_of_significand (k := 253) (q := 2 ^ 24) (le_refl _) (.inr (by decide))

/-- Twice a magnitude is a magnitude: one more in the exponent. -/
theorem exists_magUnits_double (m : Nat) : ∃ m', magUnits m' = 2 * magUnits m := by
  obtain ⟨k, q, rfl, hq, hk⟩ := exists_significand m
  rw [magUnits_of_significand hq.le hk]
  by_cases h : 2 ^ 23 ≤ q
  · exact ⟨(k + 1) * 2 ^ 23 + q, by rw [magUnits_of_significand hq.le (.inr h), pow_succ]; ring⟩
  · obtain rfl : k = 0 := by omega
    exact ⟨0 * 2 ^ 23 + 2 * q, by rw [magUnits_of_significand (by omega) (.inl rfl)]; ring⟩

/-- Every number of 24 significant bits is a magnitude. -/
theorem exists_magUnits {u : Nat} (hu : u ≤ 2 ^ 24) (j : Nat) : ∃ m, magUnits m = u * 2 ^ j := by
  induction j with
  | zero => exact ⟨0 * 2 ^ 23 + u, magUnits_of_significand hu (.inl rfl)⟩
  | succ j ih =>
    obtain ⟨m, hm⟩ := ih
    obtain ⟨m', hm'⟩ := exists_magUnits_double m
    exact ⟨m', by rw [hm', hm, pow_succ]; ring⟩

/-! ### The fields of a NUM -/

/-- The magnitude pattern of a NUM. -/
def mag (x : NUM) : Nat := x.toNat % 2 ^ 31

theorem units_eq (x : NUM) : x.units = magUnits x.mag := by
  have hx := x.isLt
  unfold units magUnits mag expField fracField
  have hexp : x.toNat % 2 ^ 31 / 2 ^ 23 = x.toNat / 2 ^ 23 % 256 := by omega
  have hfrac : x.toNat % 2 ^ 31 % 2 ^ 23 = x.toNat % 2 ^ 23 := by omega
  rw [hexp, hfrac]
  split
  · omega
  · rfl

theorem isFinite_iff_mag (x : NUM) : x.isFinite = true ↔ x.mag < 0x7F800000 := by
  have hx := x.isLt
  unfold isFinite expField mag
  rw [bne_iff_ne]
  omega

theorem isNaN_iff_mag (x : NUM) : x.isNaN = true ↔ 0x7F800000 < x.mag := by
  have hx := x.isLt
  unfold isNaN expField fracField mag
  rw [Bool.and_eq_true, beq_iff_eq, bne_iff_ne]
  omega

theorem isInf_iff_mag (x : NUM) : x.isInf = true ↔ x.mag = 0x7F800000 := by
  have hx := x.isLt
  unfold isInf expField fracField mag
  rw [Bool.and_eq_true, beq_iff_eq, beq_iff_eq]
  omega

theorem isFinite_iff_units (x : NUM) : x.isFinite = true ↔ x.units < 2 ^ 24 * 2 ^ 253 := by
  rw [isFinite_iff_mag, units_eq, ← magUnits_inf, magUnits_strictMono.lt_iff_lt]

theorem isNaN_of_isFinite {x : NUM} (h : x.isFinite = true) : x.isNaN = false := by
  rw [isFinite_iff_mag] at h
  rw [Bool.eq_false_iff, ne_eq, isNaN_iff_mag]
  omega

theorem isInf_of_isFinite {x : NUM} (h : x.isFinite = true) : x.isInf = false := by
  rw [isFinite_iff_mag] at h
  rw [Bool.eq_false_iff, ne_eq, isInf_iff_mag]
  omega

/-- Sign and magnitude pattern are the whole of a NUM. -/
theorem eq_of_sign_of_mag {x y : NUM} (hsign : x.signBit = y.signBit) (hmag : x.mag = y.mag) : x = y := by
  have hx := x.isLt
  have hy := y.isLt
  unfold signBit at hsign
  unfold mag at hmag
  rw [decide_eq_decide] at hsign
  apply BitVec.eq_of_toNat_eq
  omega

theorem eq_of_sign_of_units {x y : NUM} (hsign : x.signBit = y.signBit) (hunits : x.units = y.units) : x = y := by
  rw [units_eq, units_eq] at hunits
  exact eq_of_sign_of_mag hsign (magUnits_strictMono.injective hunits)

theorem signBit_ofSignMag (neg : Bool) {m : Nat} (hm : m < 2 ^ 31) : (ofSignMag neg m).signBit = neg := by
  unfold signBit ofSignMag
  rw [BitVec.toNat_ofNat]
  cases neg <;> simp <;> omega

theorem mag_ofSignMag (neg : Bool) {m : Nat} (hm : m < 2 ^ 31) : (ofSignMag neg m).mag = m := by
  unfold mag ofSignMag
  rw [BitVec.toNat_ofNat]
  cases neg <;> simp <;> omega

theorem signBit_neg (x : NUM) : x.neg.signBit = !x.signBit := by
  have h : x.neg.toNat = x.toNat ^^^ 2 ^ 31 := rfl
  have hbit (y : NUM) : y.signBit = y.toNat.testBit 31 := by
    have hy := y.isLt
    unfold signBit
    rw [Nat.testBit_eq_decide_div_mod_eq, decide_eq_decide]
    omega
  rw [hbit, hbit, h, Nat.testBit_xor, Nat.testBit_two_pow_self, Bool.xor_true]

theorem mag_neg (x : NUM) : x.neg.mag = x.mag := by
  have h : x.neg.toNat = x.toNat ^^^ 2 ^ 31 := rfl
  rw [mag, mag, h, Nat.xor_mod_two_pow, Nat.mod_self, Nat.xor_zero]

theorem units_neg (x : NUM) : x.neg.units = x.units := by rw [units_eq, units_eq, mag_neg]

/-! ### Signed values -/

/-- A magnitude with its sign. -/
def signed (neg : Bool) (p : Nat) : Int := if neg then -(p : Int) else p

theorem val_eq (x : NUM) : x.val = signed x.signBit x.units := rfl

theorem natAbs_signed (neg : Bool) (p : Nat) : (signed neg p).natAbs = p := by cases neg <;> simp [signed]

theorem natAbs_val (x : NUM) : x.val.natAbs = x.units := natAbs_signed _ _

theorem val_neg (x : NUM) : x.neg.val = -x.val := by
  rw [val_eq, val_eq, signBit_neg, units_neg]
  cases x.signBit <;> simp [signed]

theorem isFinite_iff_val (x : NUM) : x.isFinite = true ↔ -(2 ^ 24 * 2 ^ 253) < x.val ∧ x.val < 2 ^ 24 * 2 ^ 253 := by
  have h := natAbs_val x
  rw [isFinite_iff_units, ← h]
  omega

theorem signed_natAbs (t : Int) : signed (decide (t < 0)) t.natAbs = t := by
  unfold signed
  split
  next h =>
    have hneg := of_decide_eq_true h
    omega
  next h =>
    have hpos := of_decide_eq_false (Bool.eq_false_iff.mpr h)
    omega

theorem signed_mul (a b : Bool) (p q : Nat) : signed (a != b) (p * q) = signed a p * signed b q := by
  cases a <;> cases b <;> simp [signed]

theorem signed_mul_nat (a : Bool) (p q : Nat) : signed a (p * q) = signed a p * q := by
  cases a <;> simp [signed]

/-! ### Rounding an integer quotient -/

theorem roundEven_bounds (p d : Nat) : p / d ≤ roundEven p d ∧ roundEven p d ≤ p / d + 1 := by
  unfold roundEven
  split
  · omega
  · split <;> omega

/-- No integer is nearer to the quotient, and when another one is as near, the one taken is even. -/
theorem roundEven_nearest {d : Nat} (hd : 0 < d) (p z : Nat) :
    ((roundEven p d : Int) * d - p).natAbs ≤ ((z : Int) * d - p).natAbs ∧
      (((roundEven p d : Int) * d - p).natAbs = ((z : Int) * d - p).natAbs → z ≠ roundEven p d → roundEven p d % 2 = 0) := by
  have hmod := Nat.mod_lt p hd
  have hdiv : (p : Int) = p / d * d + (p % d : Nat) := by exact_mod_cast (Nat.div_add_mod' p d).symm
  have hcast : ((p / d : Nat) : Int) = p / d := by simp
  have hsucc : ((p / d : Nat) + 1 : Int) * d = p / d * d + d := by rw [hcast]; ring
  have hz : (z : Int) * d + d ≤ p / d * d ∨ (z : Int) * d = p / d * d ∨ (z : Int) * d = p / d * d + d ∨
      (p / d * d + d : Int) + d ≤ z * d := by
    obtain h | h | h | h : z + 1 ≤ p / d ∨ z = p / d ∨ z = p / d + 1 ∨ p / d + 2 ≤ z := by omega
    · exact .inl (by exact_mod_cast (Nat.succ_mul z d) ▸ Nat.mul_le_mul_right d h)
    · exact .inr (.inl (by rw [h, hcast]))
    · exact .inr (.inr (.inl (by rw [h, ← hsucc]; push_cast; rfl)))
    · refine .inr (.inr (.inr ?_))
      have hle : ((p / d + 2 : Nat) : Int) * d ≤ z * d := by exact_mod_cast Nat.mul_le_mul_right d h
      push_cast at hle
      linarith
  have hne : z ≠ p / d → (z : Int) * d ≠ p / d * d := by
    intro hno heq
    rw [← hcast] at heq
    exact hno (by exact_mod_cast mul_right_cancel₀ (by omega : (d : Int) ≠ 0) heq)
  have hne' : z ≠ p / d + 1 → (z : Int) * d ≠ p / d * d + d := by
    intro hno heq
    rw [← hsucc] at heq
    exact hno (by exact_mod_cast mul_right_cancel₀ (by omega : (d : Int) ≠ 0) heq)
  unfold roundEven
  split
  next hlow => rw [hcast]; omega
  next hlow =>
    split
    next hhigh => push_cast at hsucc ⊢; rw [hsucc]; omega
    next hhigh =>
      obtain heven | hodd := Nat.mod_two_eq_zero_or_one (p / d)
      · rw [heven, Nat.add_zero, hcast]; omega
      · rw [hodd]; push_cast at hsucc ⊢; rw [hsucc]; omega

end Sys2Proof.NUM

/-! The rounding to NUM (R11) by its nearest magnitude: its bounds, where it is exact, and the obligations O58, O59 and O60. -/

namespace Sys2Proof.NUM

/-! ### The rounding before its overflow -/

/-- The pattern that the rounding takes before it is cut off at infinity. -/
def rawMag (p d : Nat) : Nat := ((p / d).log2 - 23) * 2 ^ 23 + roundEven p (d * 2 ^ ((p / d).log2 - 23))

theorem roundMag_eq (p d : Nat) : roundMag p d = min (rawMag p d) 0x7F800000 := rfl

/-- The exponent leaves 24 significant bits of the quotient, all 24 of them unless it is 0. -/
theorem roundEven_significand (p d : Nat) :
    roundEven p (d * 2 ^ ((p / d).log2 - 23)) ≤ 2 ^ 24 ∧
      ((p / d).log2 - 23 = 0 ∨ (2 ^ 23 ≤ roundEven p (d * 2 ^ ((p / d).log2 - 23)) ∧ 2 ^ (23 + ((p / d).log2 - 23)) ≤ p / d)) := by
  obtain ⟨hlo, hhi⟩ := roundEven_bounds p (d * 2 ^ ((p / d).log2 - 23))
  rw [← Nat.div_div_eq_div_mul] at hlo hhi
  have hlt : p / d < 2 ^ ((p / d).log2 + 1) := Nat.lt_log2_self
  have hquot : p / d / 2 ^ ((p / d).log2 - 23) < 2 ^ 24 := by
    refine Nat.div_lt_of_lt_mul (hlt.trans_le ?_)
    rw [← pow_add]
    exact Nat.pow_le_pow_right (by decide) (by omega)
  refine ⟨by omega, ?_⟩
  by_cases hk : (p / d).log2 - 23 = 0
  · exact .inl hk
  · have hne : p / d ≠ 0 := by
      intro hzero
      rw [hzero] at hk
      exact hk (by decide)
    have hge : 2 ^ (23 + ((p / d).log2 - 23)) ≤ p / d := by
      rw [show 23 + ((p / d).log2 - 23) = (p / d).log2 by omega]
      exact Nat.log2_self_le hne
    have hbig : 2 ^ 23 ≤ p / d / 2 ^ ((p / d).log2 - 23) := by
      rw [Nat.le_div_iff_mul_le (Nat.two_pow_pos _), ← pow_add]
      exact hge
    exact .inr ⟨by omega, hge⟩

theorem magUnits_rawMag (p d : Nat) :
    magUnits (rawMag p d) = roundEven p (d * 2 ^ ((p / d).log2 - 23)) * 2 ^ ((p / d).log2 - 23) := by
  obtain ⟨hq, hk⟩ := roundEven_significand p d
  exact magUnits_of_significand hq (hk.imp_right And.left)

/-- A magnitude from 2^(k+23) units on is a multiple of 2^k units. -/
theorem exists_mul_of_le_magUnits {m k : Nat} (h : 2 ^ (23 + k) ≤ magUnits m) : ∃ z, magUnits m = z * 2 ^ k := by
  obtain ⟨j, q, rfl, hq, hj⟩ := exists_significand m
  rw [magUnits_of_significand hq.le hj] at h ⊢
  have hkj : k ≤ j := by
    by_contra hlt
    have hpow : 2 ^ (j + 1) ≤ 2 ^ k := Nat.pow_le_pow_right (by decide) (by omega)
    have : q * 2 ^ j < 2 ^ 23 * 2 ^ k :=
      calc q * 2 ^ j < 2 ^ 24 * 2 ^ j := Nat.mul_lt_mul_of_pos_right hq (Nat.two_pow_pos j)
        _ = 2 ^ 23 * 2 ^ (j + 1) := by ring
        _ ≤ 2 ^ 23 * 2 ^ k := Nat.mul_le_mul_left _ hpow
    rw [pow_add] at h
    omega
  obtain ⟨i, rfl⟩ := Nat.exists_eq_add_of_le hkj
  exact ⟨q * 2 ^ i, by rw [pow_add]; ring⟩

/-- The nearest magnitude: no pattern stands for a nearer one, and when another is as near, the one taken is even. At 2^(k+23) units the
magnitudes below lie farther off than 2^(k+23) itself, and those above are multiples of 2^k, as the rounded one is. -/
theorem rawMag_nearest {d : Nat} (hd : 0 < d) (p m : Nat) :
    ((magUnits (rawMag p d) : Int) * d - p).natAbs ≤ ((magUnits m : Int) * d - p).natAbs ∧
      (((magUnits (rawMag p d) : Int) * d - p).natAbs = ((magUnits m : Int) * d - p).natAbs → m ≠ rawMag p d →
        rawMag p d % 2 = 0) := by
  have hD : 0 < d * 2 ^ ((p / d).log2 - 23) := Nat.mul_pos hd (Nat.two_pow_pos _)
  obtain ⟨-, hk⟩ := roundEven_significand p d
  have hparity : rawMag p d % 2 = roundEven p (d * 2 ^ ((p / d).log2 - 23)) % 2 := by unfold rawMag; omega
  have hscale (z : Nat) : ((z * 2 ^ ((p / d).log2 - 23) : Nat) : Int) * d = z * (d * 2 ^ ((p / d).log2 - 23) : Nat) := by
    push_cast
    ring
  have hraw := magUnits_rawMag p d
  have hsame : magUnits m = magUnits (rawMag p d) → m = rawMag p d := fun h => magUnits_strictMono.injective h
  by_cases hmul : ∃ z, magUnits m = z * 2 ^ ((p / d).log2 - 23)
  · obtain ⟨z, hz⟩ := hmul
    obtain ⟨hle, htie⟩ := roundEven_nearest hD p z
    rw [hz, hraw, hscale, hscale, hparity]
    refine ⟨hle, fun heq hne => htie heq ?_⟩
    rintro rfl
    exact hne (hsame (hz.trans hraw.symm))
  · have hpos : (p / d).log2 - 23 ≠ 0 := by
      intro hzero
      exact hmul ⟨magUnits m, by rw [hzero, pow_zero, mul_one]⟩
    obtain ⟨-, hbig⟩ := hk.resolve_left hpos
    have hlow : magUnits m < 2 ^ (23 + ((p / d).log2 - 23)) := by
      by_contra hge
      exact hmul (exists_mul_of_le_magUnits (Nat.not_lt.mp hge))
    have hlow' : magUnits m * d < 2 ^ (23 + ((p / d).log2 - 23)) * d := Nat.mul_lt_mul_of_pos_right hlow hd
    have hbig' : 2 ^ (23 + ((p / d).log2 - 23)) * d ≤ p := (Nat.le_div_iff_mul_le hd).mp hbig
    obtain ⟨hle, -⟩ := roundEven_nearest hD p (2 ^ 23)
    rw [← hscale, ← hscale, ← hraw, ← pow_add] at hle
    have hlow'' : ((magUnits m : Int) * d) < (2 ^ (23 + ((p / d).log2 - 23)) : Nat) * d := by exact_mod_cast hlow'
    have hbig'' : ((2 ^ (23 + ((p / d).log2 - 23)) : Nat) : Int) * d ≤ p := by exact_mod_cast hbig'
    constructor
    · omega
    · omega

/-! ### Bounds of the rounding -/

section
variable {p d m : Nat}

theorem rawMag_le (hd : 0 < d) (h : p ≤ magUnits m * d) : rawMag p d ≤ m := by
  by_contra hlt
  have hmono : magUnits m * d < magUnits (rawMag p d) * d :=
    Nat.mul_lt_mul_of_pos_right (magUnits_strictMono (Nat.not_le.mp hlt)) hd
  obtain ⟨hnear, -⟩ := rawMag_nearest hd p m
  have hmono' : (magUnits m : Int) * d < magUnits (rawMag p d) * d := by exact_mod_cast hmono
  have h' : (p : Int) ≤ magUnits m * d := by exact_mod_cast h
  omega

theorem le_rawMag (hd : 0 < d) (h : magUnits m * d ≤ p) : m ≤ rawMag p d := by
  by_contra hlt
  have hmono : magUnits (rawMag p d) * d < magUnits m * d :=
    Nat.mul_lt_mul_of_pos_right (magUnits_strictMono (Nat.not_le.mp hlt)) hd
  obtain ⟨hnear, -⟩ := rawMag_nearest hd p m
  have hmono' : (magUnits (rawMag p d) : Int) * d < magUnits m * d := by exact_mod_cast hmono
  have h' : (magUnits m : Int) * d ≤ p := by exact_mod_cast h
  omega

theorem rawMag_eq (hd : 0 < d) (h : p = magUnits m * d) : rawMag p d = m :=
  Nat.le_antisymm (rawMag_le hd h.le) (le_rawMag hd h.ge)

theorem rawMag_mono (hd : 0 < d) {p' : Nat} (h : p ≤ p') : rawMag p d ≤ rawMag p' d := by
  by_contra hlt
  have hne : p ≠ p' := by
    rintro rfl
    exact hlt (le_refl _)
  have hmono : magUnits (rawMag p' d) * d < magUnits (rawMag p d) * d :=
    Nat.mul_lt_mul_of_pos_right (magUnits_strictMono (Nat.not_le.mp hlt)) hd
  obtain ⟨hnear, -⟩ := rawMag_nearest hd p (rawMag p' d)
  obtain ⟨hnear', -⟩ := rawMag_nearest hd p' (rawMag p d)
  have hmono' : (magUnits (rawMag p' d) : Int) * d < magUnits (rawMag p d) * d := by exact_mod_cast hmono
  omega

/-- The rounding overflows from halfway between the largest finite magnitude and 2^277 units on, as that tie goes to the even one. -/
theorem rawMag_overflow (hd : 0 < d) : 0x7F800000 ≤ rawMag p d ↔ (2 ^ 24 * 2 ^ 253 - 2 ^ 252) * d ≤ p := by
  have hmax : magUnits 0x7F7FFFFF = (2 ^ 25 - 2) * 2 ^ 252 :=
    (magUnits_of_significand (k := 253) (q := 2 ^ 24 - 1) (by decide) (.inr (by decide))).trans (by norm_num)
  obtain ⟨hnearMax, -⟩ := rawMag_nearest hd p 0x7F7FFFFF
  obtain ⟨hnearInf, htieInf⟩ := rawMag_nearest hd p 0x7F800000
  have hmaxd : magUnits 0x7F7FFFFF * d = (2 ^ 25 - 2) * (2 ^ 252 * d) := by rw [hmax, mul_assoc]
  have hinfd : magUnits 0x7F800000 * d = 2 ^ 25 * (2 ^ 252 * d) := by rw [magUnits_inf]; ring
  have hmid : (2 ^ 24 * 2 ^ 253 - 2 ^ 252) * d = (2 ^ 25 - 1) * (2 ^ 252 * d) := by
    rw [← mul_assoc]
    norm_num
  have he : 0 < 2 ^ 252 * d := Nat.mul_pos (Nat.two_pow_pos _) hd
  rw [hmid]
  generalize 2 ^ 252 * d = e at hmaxd hinfd he
  have hmaxd' : (magUnits 0x7F7FFFFF : Int) * d = (2 ^ 25 - 2) * e := by
    rw [← Nat.cast_mul, hmaxd]
    push_cast
    norm_num
  have hinfd' : (magUnits 0x7F800000 : Int) * d = 2 ^ 25 * e := by exact_mod_cast hinfd
  rw [hmaxd'] at hnearMax
  rw [hinfd'] at hnearInf htieInf
  constructor
  · intro hover
    have hR : (2 ^ 25 * e : Int) ≤ magUnits (rawMag p d) * d := by
      rw [← hinfd']
      exact_mod_cast Nat.mul_le_mul_right d (magUnits_strictMono.monotone hover)
    omega
  · intro hge
    by_contra hlt
    obtain hodd | hless : rawMag p d = 0x7F7FFFFF ∨ rawMag p d < 0x7F7FFFFF := by omega
    · rw [hodd, hmaxd'] at hnearInf htieInf
      exact absurd (htieInf (by omega) (by decide)) (by decide)
    · have hR : (magUnits (rawMag p d) : Int) * d < (2 ^ 25 - 2) * e := by
        rw [← hmaxd']
        exact_mod_cast Nat.mul_lt_mul_of_pos_right (magUnits_strictMono hless) hd
      omega

end

/-! ### The rounded NUM -/

section
variable (neg : Bool) {p d : Nat}

theorem roundMag_lt (p d : Nat) : roundMag p d < 2 ^ 31 := by
  rw [roundMag_eq]
  omega

theorem signBit_ofRat (p d : Nat) : (ofRat neg p d).signBit = neg := signBit_ofSignMag neg (roundMag_lt p d)

theorem mag_ofRat (p d : Nat) : (ofRat neg p d).mag = min (rawMag p d) 0x7F800000 := mag_ofSignMag neg (roundMag_lt p d)

theorem isNaN_ofRat (p d : Nat) : (ofRat neg p d).isNaN = false := by
  rw [Bool.eq_false_iff, ne_eq, isNaN_iff_mag, mag_ofRat]
  omega

theorem isFinite_ofRat_iff (p d : Nat) : (ofRat neg p d).isFinite = true ↔ rawMag p d < 0x7F800000 := by
  rw [isFinite_iff_mag, mag_ofRat]
  omega

/-- A finite result has the magnitude of the rounding before its overflow. -/
theorem mag_ofRat_of_isFinite (h : (ofRat neg p d).isFinite = true) : (ofRat neg p d).mag = rawMag p d := by
  rw [isFinite_ofRat_iff] at h
  rw [mag_ofRat]
  omega

theorem units_ofRat_le (hd : 0 < d) {x : NUM} (h : p ≤ x.units * d) : (ofRat neg p d).units ≤ x.units := by
  rw [units_eq x] at h
  rw [units_eq, units_eq, magUnits_strictMono.le_iff_le, mag_ofRat]
  exact (Nat.min_le_left _ _).trans (rawMag_le hd h)

theorem le_units_ofRat (hd : 0 < d) {x : NUM} (hx : x.isNaN = false) (h : x.units * d ≤ p) : x.units ≤ (ofRat neg p d).units := by
  rw [Bool.eq_false_iff, ne_eq, isNaN_iff_mag, Nat.not_lt] at hx
  rw [units_eq x] at h
  rw [units_eq, units_eq, magUnits_strictMono.le_iff_le, mag_ofRat]
  exact le_min (le_rawMag hd h) hx

/-- An exact quotient rounds to itself, bit by bit. -/
theorem ofRat_eq (hd : 0 < d) {x : NUM} (hx : x.isNaN = false) (hsign : x.signBit = neg) (h : p = x.units * d) :
    ofRat neg p d = x :=
  eq_of_sign_of_units ((signBit_ofRat neg p d).trans hsign.symm)
    (Nat.le_antisymm (units_ofRat_le neg hd h.le) (le_units_ofRat neg hd hx h.ge))

end

/-! ### Bounds of the rounded value -/

section
variable {neg : Bool} {p d : Nat} {x : NUM}

theorem val_ofRat (neg : Bool) (p d : Nat) : (ofRat neg p d).val = signed neg (ofRat neg p d).units := by
  rw [val_eq, signBit_ofRat]

/-- What the exact quotient does not pass, the rounded one does not pass, from either side. -/
theorem val_ofRat_bounds (hd : 0 < d) (hx : x.isNaN = false) :
    (signed neg p ≤ x.val * d → (ofRat neg p d).val ≤ x.val) ∧ (x.val * d ≤ signed neg p → x.val ≤ (ofRat neg p d).val) := by
  have hle : p ≤ x.units * d → (ofRat neg p d).units ≤ x.units := units_ofRat_le neg hd
  have hge : x.units * d ≤ p → x.units ≤ (ofRat neg p d).units := le_units_ofRat neg hd hx
  have hzero : x.units = 0 → x.units * d = 0 := fun h0 => by rw [h0, Nat.zero_mul]
  have hpos : x.units ≠ 0 → 0 < x.units * d := fun h0 => Nat.mul_pos (Nat.pos_of_ne_zero h0) hd
  rw [val_ofRat, val_eq x, ← signed_mul_nat]
  unfold signed
  generalize x.signBit = negX
  cases neg <;> cases negX <;> simp only [if_true, Bool.false_eq_true, if_false] <;> omega

theorem val_ofRat_le (hd : 0 < d) (hx : x.isNaN = false) (h : signed neg p ≤ x.val * d) : (ofRat neg p d).val ≤ x.val :=
  (val_ofRat_bounds hd hx).1 h

theorem le_val_ofRat (hd : 0 < d) (hx : x.isNaN = false) (h : x.val * d ≤ signed neg p) : x.val ≤ (ofRat neg p d).val :=
  (val_ofRat_bounds hd hx).2 h

theorem val_ofRat_eq (hd : 0 < d) (hx : x.isNaN = false) (h : signed neg p = x.val * d) : (ofRat neg p d).val = x.val :=
  le_antisymm (val_ofRat_le hd hx h.le) (le_val_ofRat hd hx h.ge)

/-- The rounding is non-decreasing. -/
theorem val_ofRat_mono (hd : 0 < d) {neg' : Bool} {p' : Nat} (h : signed neg p ≤ signed neg' p') :
    (ofRat neg p d).val ≤ (ofRat neg' p' d).val := by
  have hunits {a b : Nat} (n n' : Bool) (hab : a ≤ b) : (ofRat n a d).units ≤ (ofRat n' b d).units := by
    rw [units_eq, units_eq, magUnits_strictMono.le_iff_le, mag_ofRat, mag_ofRat]
    have hmono := rawMag_mono hd hab
    omega
  have hzero (n : Bool) : (ofRat n 0 d).units = 0 :=
    Nat.le_zero.mp (units_ofRat_le (x := 0#32) n hd (Nat.zero_le _))
  rw [val_ofRat, val_ofRat]
  unfold signed at h ⊢
  cases neg <;> cases neg' <;> simp only [if_true, Bool.false_eq_true, if_false] at h ⊢
  · have := hunits false false (show p ≤ p' by omega)
    omega
  · obtain ⟨rfl, rfl⟩ : p = 0 ∧ p' = 0 := by omega
    rw [hzero, hzero]
    rfl
  · omega
  · have := hunits true true (show p' ≤ p by omega)
    omega

end

/-! ### The obligation on the rounding -/

/-- Settles O58: before its overflow the rounding takes a nearest pattern, and the overflow starts at the tie with 2^277. -/
theorem roundingIsNearestEven : Obligations.RoundingIsNearestEven := by
  intro sign p d hd
  have hpow : (2 : Nat) ^ 277 = 2 ^ 24 * 2 ^ 253 := by rw [← pow_add]
  refine ⟨signBit_ofRat sign p d, isNaN_ofRat sign p d, ?_, fun hfinite y hy => ?_⟩
  · rw [hpow, ← rawMag_overflow hd, Bool.eq_false_iff, ne_eq, isFinite_ofRat_iff, Nat.not_lt]
  · obtain ⟨hnear, htie⟩ := rawMag_nearest hd p y.mag
    have hmag := mag_ofRat_of_isFinite sign hfinite
    have hfrac : (ofRat sign p d).fracField % 2 = (ofRat sign p d).mag % 2 := by
      unfold fracField mag
      omega
    rw [units_eq (ofRat sign p d), units_eq y, hfrac, hmag]
    exact ⟨hnear, fun heq hne => htie heq fun hsame => hne (congrArg magUnits hsame)⟩

/-! ### The operations on finite operands -/

section
variable {a b x : NUM}

theorem fadd_of_finite (ha : a.isFinite = true) (hb : b.isFinite = true) :
    fadd a b =
      if a.val + b.val = 0 then ofSignMag (a.signBit && b.signBit) 0 else ofRat (decide (a.val + b.val < 0)) (a.val + b.val).natAbs 1 := by
  simp [fadd, isNaN_of_isFinite ha, isNaN_of_isFinite hb, isInf_of_isFinite ha, isInf_of_isFinite hb]

theorem fmul_of_finite (ha : a.isFinite = true) (hb : b.isFinite = true) :
    fmul a b = ofRat (a.signBit != b.signBit) (a.units * b.units) one149 := by
  simp [fmul, isNaN_of_isFinite ha, isNaN_of_isFinite hb, isInf_of_isFinite ha, isInf_of_isFinite hb]

theorem fdiv_of_finite (ha : a.isFinite = true) (hb : b.isFinite = true) (hne : b.units ≠ 0) :
    fdiv a b = ofRat (a.signBit != b.signBit) (a.units * one149) b.units := by
  simp [fdiv, isNaN_of_isFinite ha, isNaN_of_isFinite hb, isInf_of_isFinite ha, isInf_of_isFinite hb, hne]

theorem val_ofSignMag_zero (neg : Bool) : (ofSignMag neg 0).val = 0 := by cases neg <;> decide

theorem one149_pos : 0 < one149 := Nat.two_pow_pos 149

theorem val_fadd_le (ha : a.isFinite = true) (hb : b.isFinite = true) (hx : x.isNaN = false) (h : a.val + b.val ≤ x.val) :
    (fadd a b).val ≤ x.val := by
  rw [fadd_of_finite ha hb]
  split
  next hzero => rw [val_ofSignMag_zero, ← hzero]; exact h
  · exact val_ofRat_le Nat.one_pos hx (by rw [signed_natAbs, Nat.cast_one, mul_one]; exact h)

theorem le_val_fadd (ha : a.isFinite = true) (hb : b.isFinite = true) (hx : x.isNaN = false) (h : x.val ≤ a.val + b.val) :
    x.val ≤ (fadd a b).val := by
  rw [fadd_of_finite ha hb]
  split
  next hzero => rw [val_ofSignMag_zero, ← hzero]; exact h
  · exact le_val_ofRat Nat.one_pos hx (by rw [signed_natAbs, Nat.cast_one, mul_one]; exact h)

theorem val_fadd_eq (ha : a.isFinite = true) (hb : b.isFinite = true) (hx : x.isNaN = false) (h : x.val = a.val + b.val) :
    (fadd a b).val = x.val :=
  le_antisymm (val_fadd_le ha hb hx h.ge) (le_val_fadd ha hb hx h.le)

theorem signed_fmul (a b : NUM) : signed (a.signBit != b.signBit) (a.units * b.units) = a.val * b.val := by
  rw [signed_mul, val_eq, val_eq]

theorem val_fmul_le (ha : a.isFinite = true) (hb : b.isFinite = true) (hx : x.isNaN = false)
    (h : a.val * b.val ≤ x.val * (one149 : Int)) : (fmul a b).val ≤ x.val := by
  rw [fmul_of_finite ha hb]
  exact val_ofRat_le one149_pos hx (by rw [signed_fmul]; exact h)

theorem le_val_fmul (ha : a.isFinite = true) (hb : b.isFinite = true) (hx : x.isNaN = false)
    (h : x.val * (one149 : Int) ≤ a.val * b.val) : x.val ≤ (fmul a b).val := by
  rw [fmul_of_finite ha hb]
  exact le_val_ofRat one149_pos hx (by rw [signed_fmul]; exact h)

theorem val_fmul_eq (ha : a.isFinite = true) (hb : b.isFinite = true) (hx : x.isNaN = false)
    (h : x.val * (one149 : Int) = a.val * b.val) : (fmul a b).val = x.val :=
  le_antisymm (val_fmul_le ha hb hx h.ge) (le_val_fmul ha hb hx h.le)

/-- The numerator of a quotient over the divisor's magnitude carries the divisor's sign. -/
theorem signed_fdiv (a b : NUM) :
    signed (a.signBit != b.signBit) (a.units * one149) = a.val * one149 * signed b.signBit 1 := by
  rw [← Nat.mul_one (a.units * one149), signed_mul, signed_mul_nat, val_eq]

theorem val_eq_units_mul_sign (b : NUM) : b.val = b.units * signed b.signBit 1 := by
  rw [val_eq]
  cases b.signBit <;> simp [signed]

theorem sign_mul_sign (neg : Bool) : signed neg 1 * signed neg 1 = 1 := by cases neg <;> rfl

theorem sign_of_val_pos (hb : 0 < b.val) : b.signBit = false ∧ (b.units : Int) = b.val ∧ 0 < b.units := by
  have hval := val_eq_units_mul_sign b
  cases hs : b.signBit with
  | true =>
    simp only [hs, signed, if_true] at hval
    omega
  | false =>
    simp only [hs, signed, Bool.false_eq_true, if_false] at hval
    exact ⟨rfl, by omega, by omega⟩

theorem val_fdiv_le (ha : a.isFinite = true) (hb : b.isFinite = true) (hpos : 0 < b.val) (hx : x.isNaN = false)
    (h : a.val * (one149 : Int) ≤ x.val * b.val) : (fdiv a b).val ≤ x.val := by
  obtain ⟨hsign, hunits, hne⟩ := sign_of_val_pos hpos
  rw [fdiv_of_finite ha hb hne.ne']
  refine val_ofRat_le hne hx ?_
  rw [signed_fdiv, hsign, hunits]
  simpa [signed] using h

theorem le_val_fdiv (ha : a.isFinite = true) (hb : b.isFinite = true) (hpos : 0 < b.val) (hx : x.isNaN = false)
    (h : x.val * b.val ≤ a.val * (one149 : Int)) : x.val ≤ (fdiv a b).val := by
  obtain ⟨hsign, hunits, hne⟩ := sign_of_val_pos hpos
  rw [fdiv_of_finite ha hb hne.ne']
  refine le_val_ofRat hne hx ?_
  rw [signed_fdiv, hsign, hunits]
  simpa [signed] using h

theorem units_ne_zero_of_val (hb : b.val ≠ 0) : b.units ≠ 0 := by
  rw [← natAbs_val]
  omega

theorem val_fdiv_eq (ha : a.isFinite = true) (hb : b.isFinite = true) (hne : b.val ≠ 0) (hx : x.isNaN = false)
    (h : x.val * b.val = a.val * (one149 : Int)) : (fdiv a b).val = x.val := by
  have hunits := units_ne_zero_of_val hne
  rw [fdiv_of_finite ha hb hunits]
  refine val_ofRat_eq (Nat.pos_of_ne_zero hunits) hx ?_
  rw [signed_fdiv, ← h, val_eq_units_mul_sign b, ← mul_assoc, mul_assoc _ (signed b.signBit 1), sign_mul_sign, mul_one]

end

/-! ### Exact values -/

theorem isFinite_of_val_le {x y : NUM} (hy : y.isFinite = true) (h : x.val.natAbs ≤ y.val.natAbs) : x.isFinite = true := by
  rw [natAbs_val, natAbs_val] at h
  rw [isFinite_iff_units] at hy ⊢
  exact h.trans_lt hy

/-- Every signed number of 24 significant bits below the overflow is a finite NUM. -/
theorem exists_num {t : Int} {u j : Nat} (hu : u ≤ 2 ^ 24) (hj : j ≤ 252) (ht : t.natAbs = u * 2 ^ j) :
    ∃ x : NUM, x.isFinite = true ∧ x.val = t := by
  obtain ⟨m, hm⟩ := exists_magUnits hu j
  have hlt : m < 0x7F800000 := by
    rw [← magUnits_strictMono.lt_iff_lt, hm, magUnits_inf]
    calc u * 2 ^ j ≤ 2 ^ 24 * 2 ^ 252 := Nat.mul_le_mul hu (Nat.pow_le_pow_right (by decide) hj)
      _ < 2 ^ 24 * 2 ^ 253 := by decide
  refine ⟨ofSignMag (decide (t < 0)) m, ?_, ?_⟩
  · rw [isFinite_iff_mag, mag_ofSignMag _ (by omega)]
    exact hlt
  · rw [val_eq, signBit_ofSignMag _ (by omega), units_eq, mag_ofSignMag _ (by omega), hm, ← ht, signed_natAbs]

theorem toNUM_exact {i : Int} (hi : i.natAbs ≤ 2 ^ 24) : (toNUM i).isFinite = true ∧ (toNUM i).val = i * (one149 : Int) := by
  obtain ⟨x, hfinite, hval⟩ := exists_num (t := i * (one149 : Int)) hi (show 149 ≤ 252 by decide) (by rw [Int.natAbs_mul]; rfl)
  have heq : (toNUM i).val = x.val := by
    refine val_ofRat_eq Nat.one_pos (isNaN_of_isFinite hfinite) ?_
    rw [signed_mul_nat, signed_natAbs, hval, Nat.cast_one, mul_one]
  exact ⟨isFinite_of_val_le hfinite (by rw [heq]), heq.trans hval⟩

theorem val_c128 : NUM.val c128 = 128 * (one149 : Int) := by decide

/-- A byte over 128 has 7 bits less than a 24-bit integer needs, so its quotient is exact (R15). -/
theorem ofSample_exact (b : Byte) : (ofSample b).isFinite = true ∧ (ofSample b).val * 128 = b.toInt * (one149 : Int) := by
  have hlo := BitVec.le_toInt b
  have hhi := BitVec.toInt_lt (x := b)
  obtain ⟨hfinite, hval⟩ := toNUM_exact (i := b.toInt) (by omega)
  obtain ⟨x, hx, hxval⟩ := exists_num (t := b.toInt * (2 ^ 142 : Nat)) (u := b.toInt.natAbs) (by omega)
    (show 142 ≤ 252 by decide) (by rw [Int.natAbs_mul]; rfl)
  have hone : (one149 : Int) = 128 * (2 ^ 142 : Nat) := by norm_num [one149]
  have heq : (ofSample b).val = x.val := by
    refine val_fdiv_eq hfinite (by decide) (by decide) (isNaN_of_isFinite hx) ?_
    rw [hxval, hval, val_c128, hone]
    ring
  refine ⟨isFinite_of_val_le hx (by rw [heq]), ?_⟩
  rw [heq, hxval, hone]
  ring

theorem ofSample_bounds (b : Byte) :
    -(one149 : Int) ≤ (ofSample b).val ∧ (ofSample b).val * 128 ≤ 127 * (one149 : Int) := by
  have hlo := BitVec.le_toInt b
  have hhi := BitVec.toInt_lt (x := b)
  obtain ⟨-, hval⟩ := ofSample_exact b
  have hpos : (0 : Int) < one149 := by exact_mod_cast one149_pos
  have hlo' : -128 * (one149 : Int) ≤ b.toInt * one149 := Int.mul_le_mul_of_nonneg_right (by omega) hpos.le
  have hhi' : b.toInt * (one149 : Int) ≤ 127 * one149 := Int.mul_le_mul_of_nonneg_right (by omega) hpos.le
  omega

/-! ### The obligations on the operations -/

/-- Settles O59: each operation rounds the signed exact result, and what needs no rounding is kept. -/
theorem operationsRoundOnce : Obligations.OperationsRoundOnce := by
  intro a b ha hb
  refine ⟨fun r hr h => val_fadd_eq ha hb (isNaN_of_isFinite hr) h, fun r hr h => val_fmul_eq ha hb (isNaN_of_isFinite hr) h,
    fun hne r hr h => val_fdiv_eq ha hb hne (isNaN_of_isFinite hr) h, fun hne => ?_, ?_, fun hne => ?_⟩
  · rw [fadd_of_finite ha hb, if_neg hne]
  · rw [fmul_of_finite ha hb, Int.natAbs_mul, natAbs_val, natAbs_val]
    rfl
  · rw [fdiv_of_finite ha hb (units_ne_zero_of_val hne), natAbs_val, natAbs_val]
    rfl

/-- Settles O60: integers of 24 bits, and bytes over 128, need no rounding. -/
theorem integersAndSamplesAreExact : Obligations.IntegersAndSamplesAreExact := by
  refine ⟨fun i hi => toNUM_exact hi, fun b => ?_⟩
  obtain ⟨hfinite, hval⟩ := ofSample_exact b
  obtain ⟨hlo, hhi⟩ := ofSample_bounds b
  exact ⟨hfinite, hval, hlo, hhi⟩

end Sys2Proof.NUM

/-! Which data words each operand kind takes, by bit pattern (R141, R146), and the obligation O6. -/

namespace Sys2Proof.Machine

/-! ### F32 operands -/

theorem isFinite_iff_exponent (d : Word) : NUM.isFinite d = true ↔ d.extractLsb' 23 8 ≠ 0xFF#8 := by
  rw [NUM.isFinite, NUM.expField, bne_iff_ne, ne_eq, ne_eq, ← BitVec.toNat_inj, BitVec.extractLsb'_toNat, Nat.shiftRight_eq_div_pow]
  rfl

theorem toNat_eq_sign_mag (d : Word) : d.toNat = if NUM.signBit d = true then 2 ^ 31 + NUM.mag d else NUM.mag d := by
  have hd := d.isLt
  unfold NUM.signBit NUM.mag
  simp only [decide_eq_true_iff]
  split <;> omega

/-- A value from 0.0 up to below a positive bound: the patterns from that of +0.0 up to that of the bound, and −0.0. -/
theorem opF32Range_zero_isSome_iff {hi : NUM} (hhi : NUM.isFinite hi = true) (hpos : 0 < NUM.val hi) (d : Word) :
    (opF32Range 0#32 hi d).isSome = true ↔ d.toNat < hi.toNat ∨ d = 0x80000000#32 := by
  obtain ⟨hsignHi, hunitsHi, -⟩ := NUM.sign_of_val_pos hpos
  have hmagHi : hi.toNat = NUM.mag hi := by rw [toNat_eq_sign_mag, hsignHi]; rfl
  have hhi' := (NUM.isFinite_iff_mag hi).mp hhi
  have hd := toNat_eq_sign_mag d
  have hmag : NUM.mag d < 2 ^ 31 := Nat.mod_lt _ (Nat.two_pow_pos 31)
  have hzero : NUM.mag d = 0 ↔ NUM.units d = 0 := by
    rw [NUM.units_eq]
    exact ⟨fun h => by rw [h]; rfl, fun h => NUM.magUnits_strictMono.injective (h.trans (by rfl))⟩
  have hlt : NUM.mag d < NUM.mag hi ↔ NUM.units d < NUM.units hi := by
    rw [NUM.units_eq, NUM.units_eq, NUM.magUnits_strictMono.lt_iff_lt]
  have hneg : d = 0x80000000#32 ↔ d.toNat = 2 ^ 31 := by rw [← BitVec.toNat_inj]; rfl
  have hlegal : (opF32Range 0#32 hi d).isSome = true ↔
      NUM.isFinite d = true ∧ 0 ≤ NUM.val d ∧ NUM.val d < NUM.val hi := by
    rw [opF32Range, ← val_zero]
    cases hf : NUM.isFinite d with
    | false => simp
    | true => simp [NUM.fge, NUM.flt, NUM.isNaN_of_isFinite hf, NUM.isNaN_of_isFinite hhi, show NUM.isNaN 0#32 = false by decide]
  rw [hlegal, NUM.isFinite_iff_mag, ← hunitsHi, hneg, hmagHi, hd]
  cases hsign : NUM.signBit d <;> simp only [NUM.val_eq, NUM.signed, hsign, if_true, Bool.false_eq_true, if_false]
  · omega
  · omega

theorem opSpeed_isSome_iff (d : Word) : (opSpeed d).isSome = true ↔ d.toNat < 0x47800000 ∨ d = 0x80000000#32 :=
  opF32Range_zero_isSome_iff (hi := NUM.c65536) (by rfl) (by rw [val_c65536]; exact mul_pos (by norm_num) (by exact_mod_cast NUM.one149_pos)) d

theorem opFraction_isSome_iff (d : Word) : (opFraction d).isSome = true ↔ d.toNat < 0x3F800000 ∨ d = 0x80000000#32 :=
  opF32Range_zero_isSome_iff (hi := NUM.one) (by rfl) (by rw [val_one]; exact_mod_cast NUM.one149_pos) d

theorem opF32_isSome_iff (d : Word) : (opF32 d).isSome = true ↔ d.extractLsb' 23 8 ≠ 0xFF#8 := by
  rw [← isFinite_iff_exponent, opF32]
  cases NUM.isFinite d <;> simp

/-! ### The other kinds -/

theorem opBool_isSome_iff (d : Word) : (opBool d).isSome = true ↔ d = 0#32 ∨ d = 1#32 := by
  unfold opBool
  split
  next h => simp [h]
  next h => split <;> simp_all

theorem opRange_isSome_iff (lo hi : Nat) (d : Word) : (opRange lo hi d).isSome = true ↔ lo ≤ d.toNat ∧ d.toNat ≤ hi := by
  unfold opRange
  split <;> simp_all

theorem opLoopMode_isSome_iff (d : Word) : (opLoopMode d).isSome = true ↔ d.toNat ≤ 2 := by
  have h0 : d = 0#32 ↔ d.toNat = 0 := by rw [← BitVec.toNat_inj]; rfl
  have h1 : d = 1#32 ↔ d.toNat = 1 := by rw [← BitVec.toNat_inj]; rfl
  have h2 : d = 2#32 ↔ d.toNat = 2 := by rw [← BitVec.toNat_inj]; rfl
  unfold opLoopMode
  simp only [h0, h1, h2]
  split
  · simp_all
  · split
    · simp_all
    · split
      · simp_all
      · simp
        omega

theorem opDir_isSome_iff (d : Word) : (opDir d).isSome = true ↔ d.toInt = -1 ∨ d.toInt = 0 ∨ d.toInt = 1 := by
  have hneg : d = 0xFFFFFFFF#32 ↔ d.toInt = -1 := by rw [← BitVec.toInt_inj]; rfl
  have h0 : d = 0#32 ↔ d.toInt = 0 := by rw [← BitVec.toInt_inj]; rfl
  have h1 : d = 1#32 ↔ d.toInt = 1 := by rw [← BitVec.toInt_inj]; rfl
  unfold opDir
  simp only [hneg, h0, h1]
  split
  · simp_all
  · split
    · simp_all
    · split <;> simp_all

theorem opLed_isSome_iff (d : Word) : (opLed d).isSome = true ↔ d.extractLsb' 2 30 = 0#30 := by
  have hd := d.isLt
  have hbits : d.extractLsb' 2 30 = 0#30 ↔ d.toNat < 4 := by
    rw [← BitVec.toNat_inj, BitVec.extractLsb'_toNat, Nat.shiftRight_eq_div_pow, BitVec.toNat_ofNat]
    omega
  rw [hbits, opLed]
  split <;> simp_all

theorem opZero_isSome_iff (d : Word) : (opZero d).isSome = true ↔ d = 0#32 := by
  unfold opZero
  split <;> simp_all

/-! ### The obligation -/

/-- Settles O6: each command's operand is legal when its kind takes the word; the kinds U32, CLAMP and ANY take every word. -/
theorem legalOperands : Obligations.LegalOperands := by
  intro v d
  have hbool := opBool_isSome_iff d
  have hspeed : (opRange 0 255 d).isSome = true ↔ d.toNat ≤ 255 := (opRange_isSome_iff 0 255 d).trans (and_iff_right (Nat.zero_le _))
  have hread : (opRange 0 11 d).isSome = true ↔ d.toNat ≤ 11 := (opRange_isSome_iff 0 11 d).trans (and_iff_right (Nat.zero_le _))
  have hmode := opLoopMode_isSome_iff d
  have hzero := opZero_isSome_iff d
  refine ⟨⟨hbool, hbool, hbool, hbool, hbool, hbool⟩, ⟨opRange_isSome_iff 1 65535 d, hspeed, hread, hmode, hmode⟩,
    opDir_isSome_iff d, ⟨opF32_isSome_iff d, opSpeed_isSome_iff d, opFraction_isSome_iff d⟩, opLed_isSome_iff d, ⟨hzero, hzero⟩, ?_⟩
  simp [Instr.operandLegal]

end Sys2Proof.Machine

/-! The check chains and the results of the voice commands (R200 to R208, R300 to R317, R615), and the obligations O10, O16, O17 and
O27 to O31. -/

namespace Sys2Proof.Machine

/-! ### A voice command that passes its checks -/

section
variable {s : State} {v : BitVec 8} {α : Type} {operand : Option α} {y : α}

theorem fpWrite_passes {f : α → FpVoice → FpVoice} (hb : s.cfg.backend = .fp) (hfault : s.flr.fault = false)
    (hv : v.toNat < s.cfg.voiceCount) (hy : operand = some y) :
    fpWrite v operand f s = .next ((s.modFp v.toNat (f y)).reply .ok 0) := by
  subst hy
  rw [fpWrite, guarded_passes]
  simp [voiceChecks, hb, hfault, hv]

theorem vrWrite_passes {f : α → VrVoice → VrVoice} (hb : s.cfg.backend = .vr) (hfault : s.flr.fault = false)
    (hv : v.toNat < s.cfg.voiceCount) (hy : operand = some y) :
    vrWrite v operand f s = .next ((s.modVr v.toNat (f y)).reply .ok 0) := by
  subst hy
  rw [vrWrite, guarded_passes]
  simp [voiceChecks, hb, hfault, hv]

theorem modFp_reply_eq_fpDone {x : FpVoice} (hx : s.fp[v.toNat]? = some x) (g : FpVoice → FpVoice) :
    (s.modFp v.toNat g).reply .ok 0 = s.fpDone v (g x) := by
  rw [State.modFp, List.modify_eq_set_getElem?, hx]
  rfl

theorem modVr_reply_eq_vrDone {x : VrVoice} (hx : s.vr[v.toNat]? = some x) (g : VrVoice → VrVoice) :
    (s.modVr v.toNat g).reply .ok 0 = s.vrDone v (g x) := by
  rw [State.modVr, List.modify_eq_set_getElem?, hx]
  rfl

theorem fpWrite_of_ready {f : α → FpVoice → FpVoice} {x : FpVoice} (h : FpReady s v x) (hy : operand = some y) :
    fpWrite v operand f s = .next (s.fpDone v (f y x)) := by
  obtain ⟨hb, hfault, hv, hx⟩ := h
  rw [fpWrite_passes hb hfault (by simpa [Config.voiceCount, hb, fpVoices] using hv) hy, modFp_reply_eq_fpDone hx]

theorem vrWrite_of_ready {f : α → VrVoice → VrVoice} {x : VrVoice} (h : VrReady s v x) (hy : operand = some y) :
    vrWrite v operand f s = .next (s.vrDone v (f y x)) := by
  obtain ⟨hb, hfault, hv, hx⟩ := h
  rw [vrWrite_passes hb hfault (by simpa [Config.voiceCount, hb] using hv) hy, modVr_reply_eq_vrDone hx]

end

/-! ### The operands of voice commands -/

theorem opBool_one : opBool 1#32 = some true := rfl

theorem opLoopMode_zero : opLoopMode 0#32 = some .noLoop := rfl

theorem opLoopMode_one : opLoopMode 1#32 = some .forward := rfl

theorem opLoopMode_two : opLoopMode 2#32 = some .pingpong := rfl

theorem opDir_minus_one : opDir 0xFFFFFFFF#32 = some .backward := rfl

theorem opDir_zero : opDir 0#32 = some .still := rfl

theorem opDir_one : opDir 1#32 = some .ahead := rfl

theorem opClamp_eq_clampTo (hi : Nat) (d : Word) : opClamp 0 hi d = clampTo hi d := by
  unfold opClamp clampTo
  split
  · omega
  · split <;> omega

theorem opF32_of_exponent {d : Word} (h : d.extractLsb' 23 8 ≠ 0xFF#8) : opF32 d = some d := by
  obtain ⟨x, hx⟩ := Option.isSome_iff_exists.mp ((opF32_isSome_iff d).mpr h)
  rw [hx, (opF32_eq_some hx).1]

theorem opSpeed_of_pattern {d : Word} (h : d.toNat < 0x47800000 ∨ d = 0x80000000#32) : opSpeed d = some d := by
  obtain ⟨x, hx⟩ := Option.isSome_iff_exists.mp ((opSpeed_isSome_iff d).mpr h)
  rw [hx, (opF32Range_eq_some hx).1]

theorem opFraction_of_pattern {d : Word} (h : d.toNat < 0x3F800000 ∨ d = 0x80000000#32) : opFraction d = some d := by
  obtain ⟨x, hx⟩ := Option.isSome_iff_exists.mp ((opFraction_isSome_iff d).mpr h)
  rw [hx, (opF32Range_eq_some hx).1]

/-! ### The fixed-period writes -/

theorem fpSetEnabled_true_of_enabled {x : FpVoice} (h : x.enabled = true) : fpSetEnabled true x = x := by
  obtain ⟨⟩ := x
  subst h
  rfl

/-- Settles O27: each write is `fpWrite` with its operand read, on the voice that is there. -/
theorem fpVoiceWrites : Obligations.FpVoiceWrites := by
  intro s v d x h
  have hperiod : exec (.fpPeriod v d) s = fpWrite v (some (opClamp 0 65535 d)) (fun p x => { x with period := p }) s := rfl
  have hvolume : exec (.fpVolume v d) s = fpWrite v (some (opClamp 0 64 d)) (fun n x => { x with volume := n }) s := rfl
  have hpointer : exec (.fpPointer v d) s = fpWrite v (some (opU32 d)) (fun a x => { x with pointer := a }) s := rfl
  have hlength : exec (.fpLength v d) s = fpWrite v (some (opU32 d)) (fun n x => { x with length := n }) s := rfl
  have hloopPointer : exec (.fpLoopPointer v d) s = fpWrite v (some (opU32 d)) (fun a x => { x with loopPointer := a }) s := rfl
  have hloopLength : exec (.fpLoopLength v d) s = fpWrite v (some (opU32 d)) (fun n x => { x with loopLength := n }) s := rfl
  have henable (e : Word) : exec (.fpEnable v e) s = fpWrite v (opBool e) fpSetEnabled s := rfl
  have hmute (e : Word) : exec (.fpMute v e) s = fpWrite v (opBool e) (fun b x => { x with mute := b }) s := rfl
  have hpanning : exec (.fpPanning v d) s = fpWrite v (opF32 d) (fun p x => { x with pan := p }) s := rfl
  refine ⟨?period, ?volume, hpointer.trans (fpWrite_of_ready h rfl), hlength.trans (fpWrite_of_ready h rfl),
    hloopPointer.trans (fpWrite_of_ready h rfl), hloopLength.trans (fpWrite_of_ready h rfl), fun hsilent => ?rising,
    fun hsounding => ?again, ?falling, (hmute _).trans (fpWrite_of_ready h (y := true) rfl),
    (hmute _).trans (fpWrite_of_ready h (y := false) rfl), fun hd => hpanning.trans (fpWrite_of_ready h (opF32_of_exponent hd))⟩
  case period => rw [hperiod, fpWrite_of_ready h rfl, opClamp_eq_clampTo]
  case volume => rw [hvolume, fpWrite_of_ready h rfl, opClamp_eq_clampTo]
  case rising =>
    rw [henable, fpWrite_of_ready h opBool_one]
    simp [fpSetEnabled, hsilent, fpTriggerDelay]
  case again => rw [henable, fpWrite_of_ready h opBool_one, fpSetEnabled_true_of_enabled hsounding]
  case falling => exact (henable _).trans (fpWrite_of_ready h (y := false) rfl)

/-! ### The variable-rate writes -/

/-- Settles O28: the writes that keep the live stream's position. -/
theorem vrPlainWrites : Obligations.VrPlainWrites := by
  intro s v d x h
  have hspeed : exec (.vrSpeed v d) s = vrWrite v (opSpeed d) (fun x w => { w with live := { w.live with speed := x } }) s := rfl
  have hfraction : exec (.vrFraction v d) s =
      vrWrite v (opFraction d) (fun x w => { w with live := { w.live with fraction := x } }) s := rfl
  have henable (e : Word) : exec (.vrEnable v e) s = vrWrite v (opBool e) vrSetEnabled s := rfl
  have hmute (e : Word) : exec (.vrMute v e) s = vrWrite v (opBool e) (fun b w => { w with mute := b }) s := rfl
  have hbase : exec (.vrNextBase v d) s = vrWrite v (some d.toNat) (fun a w => { w with nextBase := a }) s := rfl
  have hlength : exec (.vrNextLength v d) s = vrWrite v (some d.toNat) (fun n w => { w with nextLength := n }) s := rfl
  have hstart : exec (.vrNextLoopStart v d) s = vrWrite v (some d.toNat) (fun a w => { w with nextLoopStart := a }) s := rfl
  have hloop : exec (.vrNextLoopLength v d) s = vrWrite v (some d.toNat) (fun n w => { w with nextLoopLength := n }) s := rfl
  have hmode (e : Word) : exec (.vrNextLoopMode v e) s = vrWrite v (opLoopMode e) (fun m w => { w with nextLoopMode := m }) s := rfl
  refine ⟨fun hd => hspeed.trans (vrWrite_of_ready h (opSpeed_of_pattern hd)),
    fun hd => hfraction.trans (vrWrite_of_ready h (opFraction_of_pattern hd)), fun hsounding => ?again,
    (henable _).trans (vrWrite_of_ready h (y := false) rfl), (hmute _).trans (vrWrite_of_ready h (y := true) rfl),
    (hmute _).trans (vrWrite_of_ready h (y := false) rfl), hbase.trans (vrWrite_of_ready h rfl),
    hlength.trans (vrWrite_of_ready h rfl), hstart.trans (vrWrite_of_ready h rfl), hloop.trans (vrWrite_of_ready h rfl),
    (hmode _).trans (vrWrite_of_ready h opLoopMode_zero), (hmode _).trans (vrWrite_of_ready h opLoopMode_one),
    (hmode _).trans (vrWrite_of_ready h opLoopMode_two)⟩
  case again =>
    rw [henable, vrWrite_of_ready h opBool_one]
    simp [vrSetEnabled, hsounding]

/-- Resolving an enabled voice disables it when Resolve stops, and else leaves it enabled. -/
theorem resolveLive_of_enabled {x : VrVoice} (h : x.enabled = true) : x.resolveLive = x.resolvedTo x.live := by
  obtain ⟨⟩ := x
  subst h
  unfold VrVoice.resolveLive VrVoice.resolvedTo
  split
  next hstop => simp [hstop]
  next hgo => simp [Bool.eq_false_iff.mpr hgo]

theorem vrMoveLive_eq_movedTo (f : Stream → Stream) (x : VrVoice) : vrMoveLive f x = x.movedTo (f x.live) := by
  unfold vrMoveLive VrVoice.movedTo
  split
  next h => rw [resolveLive_of_enabled (by exact h)]; rfl
  · rfl

section
variable {s : State} {v : BitVec 8} {x : VrVoice} {α : Type} {operand : Option α} {y : α}

theorem vrWrite_moves {f : α → Stream → Stream} (h : VrReady s v x) (hy : operand = some y) :
    vrWrite v operand (fun z => vrMoveLive (f z)) s = .next (s.vrDone v (x.movedTo (f y x.live))) := by
  rw [vrWrite_of_ready h hy, vrMoveLive_eq_movedTo]

end

/-- Settles O29: each write moves the live stream and resolves it on a sounding voice; an enable resolves it on a silent one. -/
theorem vrMovingWrites : Obligations.VrMovingWrites := by
  intro s v d x h
  have henable : exec (.vrEnable v 1#32) s = vrWrite v (opBool 1#32) vrSetEnabled s := rfl
  have hdirection (e : Word) : exec (.vrDirection v e) s =
      vrWrite v (opDir e) (fun x => vrMoveLive fun l => { l with direction := x }) s := rfl
  have hpointer : exec (.vrPointer v d) s = vrWrite v (some d.toNat) (fun a => vrMoveLive fun l => { l with pointer := a }) s := rfl
  have hlength : exec (.vrLength v d) s = vrWrite v (some d.toNat) (fun n => vrMoveLive fun l => { l with length := n }) s := rfl
  have hstart : exec (.vrLoopStart v d) s = vrWrite v (some d.toNat) (fun a => vrMoveLive fun l => { l with loopStart := a }) s := rfl
  have hloop : exec (.vrLoopLength v d) s = vrWrite v (some d.toNat) (fun n => vrMoveLive fun l => { l with loopLength := n }) s := rfl
  have hmode (e : Word) : exec (.vrLoopMode v e) s =
      vrWrite v (opLoopMode e) (fun m => vrMoveLive fun l => { l with loopMode := m }) s := rfl
  refine ⟨fun hsilent => ?rising, ?_, ?_, ?_, ?_, ?_, ?_, ?_, ?_, ?_, ?_⟩
  case rising => rw [henable, vrWrite_of_ready h opBool_one, vrSetEnabled_silent x hsilent]
  · rw [hdirection, vrWrite_moves h opDir_minus_one]
  · rw [hdirection, vrWrite_moves h opDir_zero]
  · rw [hdirection, vrWrite_moves h opDir_one]
  · rw [hpointer, vrWrite_moves h rfl]
  · rw [hlength, vrWrite_moves h rfl]
  · rw [hstart, vrWrite_moves h rfl]
  · rw [hloop, vrWrite_moves h rfl]
  · rw [hmode, vrWrite_moves h opLoopMode_zero]
  · rw [hmode, vrWrite_moves h opLoopMode_one]
  · rw [hmode, vrWrite_moves h opLoopMode_two]

theorem slewed_iff (c : Config) (x : VrVoice) :
    slewed c x = true ↔ c.quality = .accurate ∧ x.enabled = true ∧ x.mixCounter = 0 := by
  simp [slewed, and_assoc]

/-- Settles O30: the slewed and the immediate write of each of the two registers. -/
theorem vrVolumeAndPanningWrites : Obligations.VrVolumeAndPanningWrites := by
  intro s v d x h
  dsimp only
  rw [← slewed_iff, ← opClamp_eq_clampTo, ← opClamp_eq_clampTo]
  refine ⟨fun hslewed => ⟨?_, ?_⟩, fun himmediate => ⟨?_, ?_⟩⟩
  · refine (vrWrite_of_ready h rfl).trans ?_
    rw [vrSetVolume, if_pos hslewed]
    rfl
  · refine (vrWrite_of_ready h rfl).trans ?_
    rw [vrSetPanning, if_pos hslewed]
    rfl
  · refine (vrWrite_of_ready h rfl).trans ?_
    rw [vrSetVolume, if_neg himmediate]
  · refine (vrWrite_of_ready h rfl).trans ?_
    rw [vrSetPanning, if_neg himmediate]

/-- Settles O31: the snapshot with and without a crossfade, and the start that follows it. -/
theorem vrTriggerResult : Obligations.VrTriggerResult := by
  intro s v d x h
  dsimp only
  have hsnapshot : (s.cfg.quality == .accurate && x.enabled) = true ↔ s.cfg.quality = .accurate ∧ x.enabled = true := by simp
  have htrigger : exec (.vrTrigger v d) s =
      vrWrite v (some (opU32 d)) (fun start w => vrStart start (vrSnapshot s.cfg w)) s := rfl
  rw [← hsnapshot, htrigger, vrWrite_of_ready h rfl]
  refine ⟨fun hsounding => ?_, fun hno => ?_⟩
  · rw [vrSnapshot, if_pos hsounding]
    rfl
  · rw [vrSnapshot, if_neg hno]
    rfl

/-! ### The check chain of the voice commands (R615) -/

section
variable {s : State} {i : Instr} {v : BitVec 8}

/-- A voice command's first failing check of R615 decides. -/
theorem exec_voice_refuses {st : Status} (hv : i.voice? = some v) {b : Backend} (hi : i.backend? = some b)
    (h : firstError (voiceChecks b v i.operandLegal s) = some st) : exec i s = .next (s.refuseWith st) := by
  obtain ⟨b', act, hbackend, hexec⟩ := exec_voice_eq_guarded hv s
  obtain rfl : b' = b := Option.some.inj (hbackend.symm.trans hi)
  rw [hexec]
  exact guarded_refuses h

/-- With every check passed a voice command writes the one voice it names and answers `OK(0)`. -/
theorem exec_voice_passes (hv : i.voice? = some v) (hon : i.onBackend s.cfg.backend = true) (hfault : s.flr.fault = false)
    (hrange : v.toNat < s.cfg.voiceCount) (hlegal : i.operandLegal = true) :
    (s.cfg.backend = .fp ∧ ∃ f, exec i s = .next ((s.modFp v.toNat f).reply .ok 0)) ∨
      (s.cfg.backend = .vr ∧ ∃ f, exec i s = .next ((s.modVr v.toNat f).reply .ok 0)) := by
  have hfp {α : Type} {operand : Option α} {f : α → FpVoice → FpVoice} (hb : Backend.fp = s.cfg.backend)
      (hsome : operand.isSome = true) : ∃ g, fpWrite v operand f s = .next ((s.modFp v.toNat g).reply .ok 0) := by
    obtain ⟨y, hy⟩ := Option.isSome_iff_exists.mp hsome
    exact ⟨f y, fpWrite_passes hb.symm hfault hrange hy⟩
  have hvr {α : Type} {operand : Option α} {f : α → VrVoice → VrVoice} (hb : Backend.vr = s.cfg.backend)
      (hsome : operand.isSome = true) : ∃ g, vrWrite v operand f s = .next ((s.modVr v.toNat g).reply .ok 0) := by
    obtain ⟨y, hy⟩ := Option.isSome_iff_exists.mp hsome
    exact ⟨f y, vrWrite_passes hb.symm hfault hrange hy⟩
  have hb {b : Backend} (hi : i.backend? = some b) : b = s.cfg.backend := by
    simpa [onBackend_of_voice hi] using hon
  cases i with
  | reset | init | render | tickdone | drain | setsink | store | settempo | setspeed | setloop | setled | status | read => cases hv
  | fpEnable | fpMute | fpPanning =>
    cases hv
    exact .inl ⟨(hb rfl).symm, hfp (hb rfl) hlegal⟩
  | fpPeriod | fpVolume | fpPointer | fpLength | fpLoopPointer | fpLoopLength =>
    cases hv
    simp only [exec, execFpPeriod, execFpVolume, execFpPointer, execFpLength, execFpLoopPointer, execFpLoopLength]
    exact .inl ⟨(hb rfl).symm, hfp (hb rfl) rfl⟩
  | vrEnable | vrSpeed | vrDirection | vrFraction | vrLoopMode | vrMute | vrNextLoopMode =>
    cases hv
    exact .inr ⟨(hb rfl).symm, hvr (hb rfl) hlegal⟩
  | vrVolume | vrPanning | vrPointer | vrLength | vrLoopStart | vrLoopLength | vrNextBase | vrNextLength | vrNextLoopStart
  | vrNextLoopLength | vrTrigger =>
    cases hv
    simp only [exec, execVrVolume, execVrPanning, execVrPointer, execVrLength, execVrLoopStart, execVrLoopLength, execVrNextBase,
      execVrNextLength, execVrNextLoopStart, execVrNextLoopLength, execVrTrigger]
    exact .inr ⟨(hb rfl).symm, hvr (hb rfl) rfl⟩

theorem exists_backend_of_voice (hv : i.voice? = some v) : ∃ b, i.backend? = some b := by
  obtain ⟨b, act, hbackend, -⟩ := exec_voice_eq_guarded hv State.reset
  exact ⟨b, hbackend⟩

end

/-- Settles O16: each check of R615 when those before it pass, then the write of the one voice. -/
theorem voiceCommandChecks : Obligations.VoiceCommandChecks := by
  intro s i v hv
  obtain ⟨b, hi⟩ := exists_backend_of_voice hv
  rw [onBackend_of_voice hi]
  refine ⟨fun hother => exec_voice_refuses hv hi ?_, fun hsame => ⟨fun hfault => exec_voice_refuses hv hi ?_, fun hfault =>
    ⟨fun hrange => exec_voice_refuses hv hi ?_, fun hrange => ⟨fun hillegal => exec_voice_refuses hv hi ?_, fun hlegal => ?_⟩⟩⟩⟩
  · have hne : s.cfg.backend ≠ b := fun h => by simp [h] at hother
    simp [voiceChecks, firstError, hne]
  all_goals have hb : b = s.cfg.backend := beq_iff_eq.mp hsame
  · simp [voiceChecks, firstError, hb, hfault]
  · simp [voiceChecks, firstError, hb, hfault, hrange]
  · simp [voiceChecks, firstError, hb, hfault, hrange, hillegal]
  · rcases exec_voice_passes hv (by rw [onBackend_of_voice hi]; exact hsame) hfault hrange hlegal with
      ⟨hbackend, f, hexec⟩ | ⟨hbackend, f, hexec⟩
    · exact ⟨_, hexec, rfl, fun k hk => ⟨List.getElem?_modify_ne _ _ hk.symm, rfl⟩, fun _ => rfl,
        fun hno => absurd (hbackend.symm.trans hno) (by decide)⟩
    · exact ⟨_, hexec, rfl, fun k hk => ⟨rfl, List.getElem?_modify_ne _ _ hk.symm⟩,
        fun hno => absurd (hbackend.symm.trans hno) (by decide), fun _ => rfl⟩

/-! ### The check chains of the control commands -/

section
variable {s : State} {d : Word} {st : Status}

theorem exec_init_refuses
    (h : firstError [(s.flr.fault, .faulted), (s.clk.tickPending, .busy), (!(opZero d).isSome, .badValue)] = some st) :
    exec (.init d) s = .next (s.refuseWith st) :=
  guarded_refuses h

theorem exec_tickdone_refuses
    (h : firstError [(s.flr.fault, .faulted), (!s.clk.tickPending, .noTick), (!(opBool d).isSome, .badValue)] = some st) :
    exec (.tickdone d) s = .next (s.refuseWith st) :=
  guarded_refuses h

theorem exec_drain_refuses
    (h : firstError [(s.flr.fault, .faulted), (s.clk.tickPending, .busy), (decide (s.undrained < d.toNat), .drainRange)] = some st) :
    exec (.drain d) s = .next (s.refuseWith st) :=
  guarded_refuses h

theorem exec_setsink_refuses (h : firstError [(s.flr.fault, .faulted)] = some st) :
    exec (.setsink d) s = .next (s.refuseWith st) :=
  guarded_refuses h

theorem exec_store_refuses
    (h : firstError [(s.flr.fault, .faulted), (s.clk.tickPending, .busy), (s.isSealed, .arenaSealed),
      (decide (s.cfg.arenaCap < s.arenaLen + (s.storeBytes d.toNat).length), .arenaFull)] = some st) :
    exec (.store d) s = .next (s.refuseWith st) :=
  guarded_refuses h

theorem exec_settempo_refuses (h : firstError [(s.flr.fault, .faulted), (!(opRange 1 65535 d).isSome, .badValue)] = some st) :
    exec (.settempo d) s = .next (s.refuseWith st) :=
  guarded_refuses h

theorem exec_setspeed_refuses (h : firstError [(s.flr.fault, .faulted), (!(opRange 0 255 d).isSome, .badValue)] = some st) :
    exec (.setspeed d) s = .next (s.refuseWith st) :=
  guarded_refuses h

theorem exec_setloop_refuses (h : firstError [(s.flr.fault, .faulted), (!(opBool d).isSome, .badValue)] = some st) :
    exec (.setloop d) s = .next (s.refuseWith st) :=
  guarded_refuses h

theorem exec_setled_refuses (h : firstError [(s.flr.fault, .faulted), (!(opLed d).isSome, .badValue)] = some st) :
    exec (.setled d) s = .next (s.refuseWith st) :=
  guarded_refuses h

theorem exec_status_refuses (h : (opZero d).isSome = false) : exec (.status d) s = .next (s.refuseWith .badValue) :=
  guarded_refuses (by simp [firstError, h])

theorem exec_read_refuses (h : (opRange 0 11 d).isSome = false) : exec (.read d) s = .next (s.refuseWith .badValue) :=
  guarded_refuses (by simp [firstError, h])

theorem storeBytes_length (n : Nat) (s : State) : (s.storeBytes n).length = min n (s.port.src.length - s.port.pos) := by
  simp [State.storeBytes]

end

/-- Every command but RESET, GET_STATUS and READ checks the fault state, a voice command after its decode check. -/
theorem exec_faulted {s : State} {i : Instr} (hfault : s.flr.fault = true) (hon : i.onBackend s.cfg.backend = true)
    (hreset : ∀ d, i ≠ .reset d) (hstatus : ∀ d, i ≠ .status d) (hread : ∀ d, i ≠ .read d) :
    exec i s = .next (s.refuseWith .faulted) := by
  cases hv : i.voice? with
  | some v =>
    obtain ⟨b, hi⟩ := exists_backend_of_voice hv
    rw [onBackend_of_voice hi] at hon
    exact exec_voice_refuses hv hi (by simp [voiceChecks, firstError, beq_iff_eq.mp hon, hfault])
  | none =>
    cases i with
    | reset d => exact absurd rfl (hreset d)
    | status d => exact absurd rfl (hstatus d)
    | read d => exact absurd rfl (hread d)
    | init d => exact exec_init_refuses (firstError_of_fails _ _ hfault)
    | render d => exact exec_render_refuses (firstError_of_fails _ _ hfault)
    | tickdone d => exact exec_tickdone_refuses (firstError_of_fails _ _ hfault)
    | drain d => exact exec_drain_refuses (firstError_of_fails _ _ hfault)
    | setsink d => exact exec_setsink_refuses (firstError_of_fails _ _ hfault)
    | store d => exact exec_store_refuses (firstError_of_fails _ _ hfault)
    | settempo d => exact exec_settempo_refuses (firstError_of_fails _ _ hfault)
    | setspeed d => exact exec_setspeed_refuses (firstError_of_fails _ _ hfault)
    | setloop d => exact exec_setloop_refuses (firstError_of_fails _ _ hfault)
    | setled d => exact exec_setled_refuses (firstError_of_fails _ _ hfault)
    | fpEnable | fpPeriod | fpVolume | fpPointer | fpLength | fpLoopPointer | fpLoopLength | fpMute | fpPanning | vrEnable | vrSpeed
    | vrDirection | vrFraction | vrVolume | vrPanning | vrPointer | vrLength | vrLoopStart | vrLoopLength | vrLoopMode | vrMute
    | vrNextBase | vrNextLength | vrNextLoopStart | vrNextLoopLength | vrNextLoopMode | vrTrigger => cases hv

theorem exec_status_accepts {s : State} {d : Word} (h : (opZero d).isSome = true) :
    exec (.status d) s = .next (s.reply .ok s.statusWord) := by
  rw [(opZero_isSome_iff d).mp h]
  exact exec_status_zero s

theorem readable_of_le {n : Nat} (s : State) (h : n ≤ 11) : ∃ m, s.readable n = some m := by
  interval_cases n <;> exact ⟨_, rfl⟩

theorem exec_read_accepts {s : State} {d : Word} (h : (opRange 0 11 d).isSome = true) :
    ∃ w, exec (.read d) s = .next (s.reply .ok w) := by
  obtain ⟨-, hd⟩ := (opRange_isSome_iff 0 11 d).mp h
  obtain ⟨m, hm⟩ := readable_of_le s hd
  exact ⟨_, exec_read_of_readable hd hm⟩

/-- Settles O10: the commands that check for a fault, the two that do not, and RESET. -/
theorem faultStateIsSticky : Obligations.FaultStateIsSticky := by
  intro s i hfault hon
  refine ⟨exec_faulted hfault hon, ?_, ?_⟩
  · rintro (⟨d, rfl⟩ | ⟨d, rfl⟩)
    · exact ⟨fun h => ⟨_, exec_status_accepts h⟩, fun h => exec_status_refuses h⟩
    · exact ⟨fun h => exec_read_accepts h, fun h => exec_read_refuses h⟩
  · rintro ⟨d, rfl⟩
    exact ⟨_, rfl, rfl, rfl⟩

/-- A control command with an illegal operand gets to its operand check when the checks before it pass. -/
theorem exec_control_badValue {s : State} {i : Instr} (hv : i.voice? = none) (hillegal : i.operandLegal = false)
    (hfault : s.flr.fault = false ∨ (∃ d, i = .status d) ∨ ∃ d, i = .read d)
    (hinit : (∃ d, i = .init d) → s.clk.tickPending = false) (htick : (∃ d, i = .tickdone d) → s.clk.tickPending = true) :
    exec i s = .next (s.refuseWith .badValue) := by
  simp only [Instr.operandLegal] at hillegal
  cases i with
  | reset | render | drain | setsink | store => cases hillegal
  | status d => exact exec_status_refuses hillegal
  | read d => exact exec_read_refuses hillegal
  | init d =>
    have hno : s.flr.fault = false := by simpa using hfault
    exact exec_init_refuses (by simp [firstError, hno, hinit ⟨d, rfl⟩, hillegal])
  | tickdone d =>
    have hno : s.flr.fault = false := by simpa using hfault
    exact exec_tickdone_refuses (by simp [firstError, hno, htick ⟨d, rfl⟩, hillegal])
  | settempo d =>
    have hno : s.flr.fault = false := by simpa using hfault
    exact exec_settempo_refuses (by simp [firstError, hno, hillegal])
  | setspeed d =>
    have hno : s.flr.fault = false := by simpa using hfault
    exact exec_setspeed_refuses (by simp [firstError, hno, hillegal])
  | setloop d =>
    have hno : s.flr.fault = false := by simpa using hfault
    exact exec_setloop_refuses (by simp [firstError, hno, hillegal])
  | setled d =>
    have hno : s.flr.fault = false := by simpa using hfault
    exact exec_setled_refuses (by simp [firstError, hno, hillegal])
  | fpEnable | fpPeriod | fpVolume | fpPointer | fpLength | fpLoopPointer | fpLoopLength | fpMute | fpPanning | vrEnable | vrSpeed
  | vrDirection | vrFraction | vrVolume | vrPanning | vrPointer | vrLength | vrLoopStart | vrLoopLength | vrLoopMode | vrMute
  | vrNextBase | vrNextLength | vrNextLoopStart | vrNextLoopLength | vrNextLoopMode | vrTrigger => cases hv

/-- Settles O17: each refusal by the first check that fails. -/
theorem controlCommandChecks : Obligations.ControlCommandChecks := by
  refine ⟨fun s d hfault hpending => ⟨?_, ?_, ?_, ?_⟩, fun s d hfault hpending => ?_, fun s i => exec_control_badValue,
    fun s d hfault hpending hrange => ?_, fun s d hfault hpending hsealed => ?_, fun s d hfault hpending hsealed hfull => ?_⟩
  · exact exec_init_refuses (by simp [firstError, hfault, hpending])
  · exact exec_render_refuses (by simp [renderChecks, firstError, hfault, hpending])
  · exact exec_drain_refuses (by simp [firstError, hfault, hpending])
  · exact exec_store_refuses (by simp [firstError, hfault, hpending])
  · exact exec_tickdone_refuses (by simp [firstError, hfault, hpending])
  · exact exec_drain_refuses (by simp [firstError, hfault, hpending, State.undrained, hrange])
  · exact exec_store_refuses (by simp [firstError, hfault, hpending, hsealed])
  · exact exec_store_refuses (by simp [firstError, hfault, hpending, hsealed, storeBytes_length, hfull])

end Sys2Proof.Machine

/-! The results of the commands that mix nothing: RESET, INIT, STORE, the control registers (R700, R450, R550, R500, R458 to R460, R400) and
one fetch (R212), with the obligations O32, O33, O37, O40 and O43. -/

namespace Sys2Proof.Machine

section
variable {s : State}

/-- A voice of a new variable-rate bank is at its reset value. -/
theorem eq_initial_of_mem_vrBank {c : Config} (hb : c.backend = .vr) {x : VrVoice} (hx : x ∈ vrBank c) : x = VrVoice.initial := by
  rw [vrBank, hb] at hx
  exact List.eq_of_mem_replicate hx

theorem configBits_reserved (c : Config) : value (configBits c) &&& 0xFFFF1FFF#32 = 0#32 := by
  have hbits : ∀ vr accurate ntsc : Bool,
      value (vr.toNat * 2 ^ 13 + accurate.toNat * 2 ^ 14 + ntsc.toNat * 2 ^ 15) &&& 0xFFFF1FFF#32 = 0#32 := by decide
  rw [configBits_eq]
  exact hbits _ _ _

/-- Settles O32: RESET puts in place the registers of a new instance, field by field. -/
theorem resetLeavesResetValues : Obligations.ResetLeavesResetValues := by
  intro s d
  refine ⟨s.resetRegisters.reply .ok 0, rfl, rfl, rfl, rfl, rfl, rfl, rfl, rfl, rfl, rfl, fun hb => ⟨?_, ?_⟩, fun hb => ⟨?_, ?_, fun x hx => ?_⟩,
    rfl, fun hb => ?_, fun hb => ?_, rfl, rfl, rfl, rfl, rfl, rfl, rfl, rfl, rfl, rfl, ?_⟩
  · show vrBank s.cfg = []
    rw [vrBank, hb]
  · show fpBank s.cfg = _
    rw [fpBank, hb]
    rfl
  · show fpBank s.cfg = []
    rw [fpBank, hb]
  · show (vrBank s.cfg).length = _
    rw [vrBank, hb, List.length_replicate]
  · obtain rfl := eq_initial_of_mem_vrBank hb hx
    exact ⟨rfl, rfl, rfl, rfl, rfl, rfl, rfl, ⟨rfl, rfl, rfl, rfl, rfl⟩, rfl, rfl, rfl, rfl, ⟨rfl, rfl, rfl⟩, rfl, rfl, ⟨rfl, rfl, rfl, rfl⟩, rfl, rfl⟩
  · show s.cfg.resetSpt = _
    rw [Config.resetSpt, hb]
    cases h : s.cfg.video <;> simp [Config.fpPresetSpt, h]
  · show s.cfg.resetSpt = _
    rw [Config.resetSpt, hb]
  · show (State.powerOn s.cfg).statusWord &&& _ = _
    rw [statusWord_powerOn]
    exact configBits_reserved s.cfg

/-- Settles O33: INIT passes its checks, and its banks and its tick length are those of the backend. -/
theorem initResult : Obligations.InitResult := by
  intro s hfault hpending
  have hact : exec (.init 0#32) s = .next (s.initRegisters.reply .ok 0) :=
    guarded_passes (by simp [hfault, hpending, opZero])
  rw [hact]
  unfold State.initRegisters fpBank vrBank Config.fpPresetSpt
  cases hb : s.cfg.backend with
  | fp => cases hv : s.cfg.video <;> rfl
  | vr => rfl

/-- Settles O37: each write passes its checks with its operand read. -/
theorem controlRegisterWrites : Obligations.ControlRegisterWrites := by
  intro s d hfault
  refine ⟨?_, fun hlo hhi => ?_, fun hhi => ?_, ?_, ?_, fun hd => ?_⟩
  · exact guarded_passes (by simp [hfault])
  · have hd : opRange 1 65535 d = some d.toNat := if_pos ⟨hlo, hhi⟩
    show execSettempo d s = _
    rw [execSettempo, guarded_passes (by simp [hfault, hd]), hd]
    rfl
  · have hd : opRange 0 255 d = some d.toNat := if_pos ⟨Nat.zero_le _, hhi⟩
    show execSetspeed d s = _
    rw [execSetspeed, guarded_passes (by simp [hfault, hd]), hd]
    rfl
  · show execSetloop 1#32 s = _
    rw [execSetloop, opBool_one, guarded_passes (by simp [hfault])]
    rfl
  · have hd : opBool 0#32 = some false := rfl
    show execSetloop 0#32 s = _
    rw [execSetloop, hd, guarded_passes (by simp [hfault])]
    rfl
  · have hled : opLed d = some (d.getLsbD 0, d.getLsbD 1) := if_pos hd
    show execSetled d s = _
    rw [execSetled, hled, guarded_passes (by simp [hfault])]
    rfl

/-- Settles O40: the payload's bytes go to the next free offsets. -/
theorem storeResult : Obligations.StoreResult := by
  intro s d m hwf hfault hpending hsealed hroom
  have hlength : (s.storeBytes d.toNat).length = m := storeBytes_length d.toNat s
  have hact : exec (.store d) s =
      .next (({ s with arena := s.arena.append (s.storeBytes d.toNat) } : State).reply .ok (value s.arenaLen)) :=
    guarded_passes (by simp [hfault, hpending, hsealed, opU32, hlength, hroom])
  refine ⟨_, hact, rfl, append_wf _ _ hwf, ?_, fun a ha => append_read_old _ _ hwf a ha, fun j hj => ?_⟩
  · show (s.arena.append _).length = _
    rw [append_length, hlength, State.arenaLen]
  · refine (append_read_new _ _ hwf j).trans ?_
    rw [State.storeBytes, List.getElem?_take_of_lt (by omega), List.getElem?_drop]

end

/-! ### One fetch (R212) -/

theorem fpFetchByte_of_unreadable {m : Memory} {v : FpVoice} (h : m.read v.pointer = none) :
    fpFetchByte m v = (v, some (.arenaRange v.pointer)) := by
  rw [fpFetchByte, h]

/-- A fetch that reads: the byte, and the cursor moved or the region reloaded. -/
theorem fpFetchByte_of_read {m : Memory} {v : FpVoice} {b : Byte} (h : m.read v.pointer = some b) :
    fpFetchByte m v =
      (if v.length - 1 = 0 then { v with dac := NUM.ofSample b, pointer := v.loopPointer, length := v.loopLength }
      else { v with dac := NUM.ofSample b, pointer := v.pointer + 1, length := v.length - 1 }, none) := by
  rw [fpFetchByte, h]
  rfl

theorem fpFetch_of_length {m : Memory} {v : FpVoice} (h : v.length ≠ 0) : fpFetch m v = fpFetchByte m v := if_neg h

theorem fpFetch_of_exhausted {m : Memory} {v : FpVoice} (h : v.length = 0) (hloop : v.loopLength = 0) :
    fpFetch m v = ({ v.reload with enabled := false }, none) := by
  rw [fpFetch, if_pos h, if_pos hloop]

theorem fpFetch_of_reload {m : Memory} {v : FpVoice} (h : v.length = 0) (hloop : v.loopLength ≠ 0) :
    fpFetch m v = fpFetchByte m v.reload := by
  rw [fpFetch, if_pos h, if_neg hloop]

/-- Settles O43: the three kinds of region, and the byte at the cursor. -/
theorem fetchReadsAndReloads : Obligations.FetchReadsAndReloads := by
  intro m v
  refine ⟨fun h hloop => ?_, fun h hloop => ?_, fun h => ⟨fun hnone => ?_, fun b hread => ?_⟩⟩
  · rw [fpFetch_of_exhausted h hloop, FpVoice.reload, hloop]
  · rw [fpFetch_of_reload h hloop, fpFetch_of_length (by exact hloop), FpVoice.reload]
  · rw [fpFetch_of_length h, fpFetchByte_of_unreadable hnone]
  · rw [fpFetch_of_length h, fpFetchByte_of_read hread]
    rw [if_congr (show v.length - 1 = 0 ↔ v.length = 1 by omega) rfl rfl]

end Sys2Proof.Machine

/-! What mixing keeps of voices, from one sample to a segment; the fixed-period sample within its ranges and its three fetches (R211, R617),
and the obligations O22 and O46. -/

namespace Sys2Proof.Machine

/-! ### From a sample to a segment -/

/-- A piece of mixing that ends well: with a voice that meets `P`, or in a stop that meets `E`. -/
def Sound {α : Type} (P : α → Prop) (E : MixStop → Prop) (v : α) : Option MixStop → Prop
  | none => P v
  | some e => E e

section
variable {V : Type} {f : V → Frame → Mixed V Frame} {P : V → Prop} {E : MixStop → Prop}

theorem mixVoice_sound (hf : ∀ v a, P v → Sound P E (f v a).voices (f v a).stop) {v : V} (h : P v) (as : List Frame) :
    Sound P E (mixVoice f v as).voices (mixVoice f v as).stop := by
  induction as generalizing v with
  | nil => exact h
  | cons a as ih =>
    have hv := hf v a h
    cases hs : (f v a).stop with
    | none =>
      rw [hs] at hv
      rw [mixVoice_cons_go f v a as hs]
      exact ih hv
    | some e =>
      rw [hs] at hv
      rw [mixVoice_cons_stop f v a as e hs]
      exact hv

theorem mixVoices_sound (hf : ∀ v a, P v → Sound P E (f v a).voices (f v a).stop) {vs : List V} (h : ∀ v ∈ vs, P v) (as : List Frame) :
    Sound (fun ws => ∀ w ∈ ws, P w) E (mixVoices f vs as).voices (mixVoices f vs as).stop := by
  induction vs generalizing as with
  | nil => exact h
  | cons v vs ih =>
    obtain ⟨hhead, htail⟩ := List.forall_mem_cons.mp h
    have hv := mixVoice_sound hf hhead as
    cases hs : (mixVoice f v as).stop with
    | some e =>
      rw [hs] at hv
      rw [mixVoices_cons_stop f v vs as e hs]
      exact hv
    | none =>
      rw [hs] at hv
      rw [mixVoices_cons_go f v vs as hs]
      have hvs := ih htail (mixVoice f v as).frames
      cases ht : (mixVoices f vs (mixVoice f v as).frames).stop with
      | some e =>
        rw [ht] at hvs
        exact hvs
      | none =>
        rw [ht] at hvs
        exact List.forall_mem_cons.mpr ⟨hv, hvs⟩

end

section
variable {s : State} {E : MixStop → Prop} (i0 seg : Nat)

theorem mixSegment_sound_fp {P : FpVoice → Prop} (hb : s.cfg.backend = .fp)
    (hf : ∀ v a, P v → Sound P E (fpVoiceSample s.cfg s.arena v a).voices (fpVoiceSample s.cfg s.arena v a).stop)
    (h : ∀ v ∈ s.fp, P v) : Sound (fun u : State => ∀ v ∈ u.fp, P v) E (mixSegment i0 seg s).1 (mixSegment i0 seg s).2 := by
  have hall := mixVoices_sound hf h (framesAt s.acc i0 seg)
  rw [mixSegment_of_fp hb, mixSegmentFp_stop]
  cases hs : (mixVoices (fpVoiceSample s.cfg s.arena) s.fp (framesAt s.acc i0 seg)).stop with
  | none =>
    rw [hs] at hall
    show ∀ v ∈ (mixSegmentFp i0 seg s).1.fp, P v
    rw [mixSegmentFp_fp]
    exact hall
  | some e =>
    rw [hs] at hall
    exact hall

theorem mixSegment_sound_vr {P : VrVoice → Prop} (hb : s.cfg.backend = .vr)
    (hf : ∀ v a, P v → Sound P E (vrVoiceSample s.cfg s.arena v a).voices (vrVoiceSample s.cfg s.arena v a).stop)
    (h : ∀ v ∈ s.vr, P v) : Sound (fun u : State => ∀ v ∈ u.vr, P v) E (mixSegment i0 seg s).1 (mixSegment i0 seg s).2 := by
  have hall := mixVoices_sound hf h (framesAt s.acc i0 seg)
  rw [mixSegment_of_vr hb]
  cases hs : (mixVoices (vrVoiceSample s.cfg s.arena) s.vr (framesAt s.acc i0 seg)).stop with
  | none =>
    rw [hs] at hall
    rw [mixSegmentVr, hs]
    exact hall
  | some e =>
    rw [hs] at hall
    rw [mixSegmentVr, hs]
    exact hall

theorem mixSegment_fp_of_vr (hb : s.cfg.backend = .vr) : (mixSegment i0 seg s).1.fp = s.fp := by rw [mixSegment_of_vr hb, mixSegmentVr]

theorem mixSegment_vr_of_fp (hb : s.cfg.backend = .fp) : (mixSegment i0 seg s).1.vr = s.vr := by
  rw [mixSegment_of_fp hb, mixSegmentFp_vr]

end

/-! ### One fetch -/

/-- The only stop of a sample whose voice is in range is an arena read (R606). -/
abbrev ArenaStop (e : MixStop) : Prop := ∃ a, e = .arenaRange a

/-- A fixed-period voice's ranges but for its timer, which the fetches of a sample take below 0.0 for a while. -/
abbrev FpVoice.InRangeUntimed (v : FpVoice) : Prop :=
  v.period ≤ 65535 ∧ v.volume ≤ 64 ∧ v.delay ≤ 2 ∧ NUM.isFinite v.pan = true ∧
  (v.pointer < 2 ^ 32 ∧ v.length < 2 ^ 32 ∧ v.loopPointer < 2 ^ 32 ∧ v.loopLength < 2 ^ 32) ∧
  (NUM.isFinite v.dac = true ∧ -(NUM.one149 : Int) ≤ NUM.val v.dac ∧ NUM.val v.dac * 128 ≤ 127 * (NUM.one149 : Int))

theorem fpInRange_iff (v : FpVoice) :
    v.InRange ↔ v.InRangeUntimed ∧ (v.enabled = true → NUM.isFinite v.fractionalTimer = true ∧ 0 ≤ NUM.val v.fractionalTimer ∧
      NUM.val v.fractionalTimer < 1024 * (NUM.one149 : Int)) := by
  constructor
  · rintro ⟨hperiod, hvolume, hdelay, hpan, hcursor, hdac, htimer⟩
    exact ⟨⟨hperiod, hvolume, hdelay, hpan, hcursor, hdac⟩, htimer⟩
  · rintro ⟨⟨hperiod, hvolume, hdelay, hpan, hcursor, hdac⟩, htimer⟩
    exact ⟨hperiod, hvolume, hdelay, hpan, hcursor, hdac, htimer⟩

section
variable {m : Memory} {v : FpVoice}

/-- The three ways a fetch can end: nothing to reload, a cursor outside the arena, or a byte read from the region there then is. -/
theorem fpFetch_cases (m : Memory) (v : FpVoice) :
    (v.length = 0 ∧ v.loopLength = 0 ∧ fpFetch m v = ({ v.reload with enabled := false }, none)) ∨
      ∃ u : FpVoice, (u = v ∨ u = v.reload) ∧ u.length ≠ 0 ∧
        ((m.read u.pointer = none ∧ fpFetch m v = (u, some (.arenaRange u.pointer))) ∨
          ∃ b, m.read u.pointer = some b ∧
            fpFetch m v =
              (if u.length - 1 = 0 then { u with dac := NUM.ofSample b, pointer := u.loopPointer, length := u.loopLength }
              else { u with dac := NUM.ofSample b, pointer := u.pointer + 1, length := u.length - 1 }, none)) := by
  have hbyte (u : FpVoice) : (m.read u.pointer = none ∧ fpFetchByte m u = (u, some (.arenaRange u.pointer))) ∨
      ∃ b, m.read u.pointer = some b ∧
        fpFetchByte m u =
          (if u.length - 1 = 0 then { u with dac := NUM.ofSample b, pointer := u.loopPointer, length := u.loopLength }
          else { u with dac := NUM.ofSample b, pointer := u.pointer + 1, length := u.length - 1 }, none) := by
    cases hread : m.read u.pointer with
    | none => exact .inl ⟨rfl, fpFetchByte_of_unreadable hread⟩
    | some b => exact .inr ⟨b, rfl, fpFetchByte_of_read hread⟩
  by_cases hlength : v.length = 0
  · by_cases hloop : v.loopLength = 0
    · exact .inl ⟨hlength, hloop, fpFetch_of_exhausted hlength hloop⟩
    · exact .inr ⟨v.reload, .inr rfl, hloop, by rw [fpFetch_of_reload hlength hloop]; exact hbyte v.reload⟩
  · exact .inr ⟨v, .inl rfl, hlength, by rw [fpFetch_of_length hlength]; exact hbyte v⟩

/-- A fetch does not touch the timer, and leaves no disabled voice enabled. -/
theorem fpFetch_timer (m : Memory) (v : FpVoice) :
    (fpFetch m v).1.fractionalTimer = v.fractionalTimer ∧ ((fpFetch m v).1.enabled = true → v.enabled = true) := by
  rcases fpFetch_cases m v with ⟨-, -, heq⟩ | ⟨u, hu, -, ⟨-, heq⟩ | ⟨b, -, heq⟩⟩
  · rw [heq]
    exact ⟨rfl, fun hno => absurd hno (by simp)⟩
  · rw [heq]
    rcases hu with rfl | rfl <;> exact ⟨rfl, id⟩
  · rw [heq]
    rcases hu with rfl | rfl <;> split <;> exact ⟨rfl, id⟩

theorem lt_length_of_read (hwf : m.wf = true) {a : Nat} {b : Byte} (h : m.read a = some b) : a < m.length :=
  (read_isSome_iff m hwf a).mp (by rw [h]; rfl)

/-- A fetch keeps the ranges: the byte it takes is one of R15's values, and a cursor that could be read is below `arenaLen`. -/
theorem fpFetch_inRange (hwf : m.wf = true) (hlen : m.length < 2 ^ 32) (h : v.InRangeUntimed) :
    Sound FpVoice.InRangeUntimed ArenaStop (fpFetch m v).1 (fpFetch m v).2 := by
  have hreload : v.reload.InRangeUntimed := by
    obtain ⟨hperiod, hvolume, hdelay, hpan, ⟨-, -, hloop, hloopLength⟩, hdac⟩ := h
    exact ⟨hperiod, hvolume, hdelay, hpan, ⟨hloop, hloopLength, hloop, hloopLength⟩, hdac⟩
  rcases fpFetch_cases m v with ⟨-, -, heq⟩ | ⟨u, hu, -, ⟨-, heq⟩ | ⟨b, hread, heq⟩⟩
  · rw [heq]
    exact hreload
  · rw [heq]
    exact ⟨_, rfl⟩
  · have hin : u.InRangeUntimed := by rcases hu with rfl | rfl <;> assumption
    obtain ⟨hperiod, hvolume, hdelay, hpan, ⟨-, hlength, hloop, hloopLength⟩, -⟩ := hin
    have hpointer := lt_length_of_read hwf hread
    have hdac := (NUM.ofSample_exact b).1
    have hbounds := NUM.ofSample_bounds b
    rw [heq]
    show FpVoice.InRangeUntimed (ite _ _ _)
    split
    · exact ⟨hperiod, hvolume, hdelay, hpan, ⟨hloop, hloopLength, hloop, hloopLength⟩, hdac, hbounds⟩
    · exact ⟨hperiod, hvolume, hdelay, hpan, ⟨by dsimp only; omega, by dsimp only; omega, hloop, hloopLength⟩, hdac, hbounds⟩

/-- A fetch from a region inside the arena reads, and leaves the voice's regions inside. -/
theorem fpFetch_inside (hwf : m.wf = true) (h : v.Inside m.length) :
    (fpFetch m v).2 = none ∧ (fpFetch m v).1.Inside m.length := by
  have hreload : v.reload.Inside m.length := ⟨h.2, h.2⟩
  rcases fpFetch_cases m v with ⟨-, -, heq⟩ | ⟨u, hu, hlength, hread⟩
  · rw [heq]
    exact ⟨rfl, hreload⟩
  · obtain ⟨hregion, hloop⟩ : u.Inside m.length := by rcases hu with rfl | rfl <;> assumption
    have hcursor := hregion hlength
    rcases hread with ⟨hnone, -⟩ | ⟨b, -, heq⟩
    · have hsome := (read_isSome_iff m hwf u.pointer).mpr (by omega)
      rw [hnone] at hsome
      cases hsome
    · rw [heq]
      refine ⟨rfl, ?_⟩
      show FpVoice.Inside _ (ite _ _ _)
      split
      · exact ⟨hloop, hloop⟩
      · exact ⟨fun _ => by dsimp only; omega, hloop⟩

end

/-! ### The loop of fetches (R211, R617) -/

section
variable {m : Memory} {step : NUM} {v w : FpVoice}

theorem fpFetchLoop_of_rest (n : Nat) (h : (v.enabled && NUM.flt v.fractionalTimer NUM.one) = false) :
    fpFetchLoop m step n v = (v, none) := by
  rw [fpFetchLoop.eq_def]
  exact if_neg (by simp [h])

theorem fpFetchLoop_zero (h : (v.enabled && NUM.flt v.fractionalTimer NUM.one) = true) :
    fpFetchLoop m step 0 v = (v, some .fetchLoop) := by
  rw [fpFetchLoop, if_pos h]

theorem fpFetchLoop_of_stop (n : Nat) {e : MixStop} (h : (v.enabled && NUM.flt v.fractionalTimer NUM.one) = true)
    (hfetch : fpFetch m v = (w, some e)) : fpFetchLoop m step (n + 1) v = (w, some e) := by
  rw [fpFetchLoop, if_pos h]
  simp only [hfetch]

theorem fpFetchLoop_of_fetch (n : Nat) (h : (v.enabled && NUM.flt v.fractionalTimer NUM.one) = true)
    (hfetch : fpFetch m v = (w, none)) :
    fpFetchLoop m step (n + 1) v =
      fpFetchLoop m step n (if w.enabled then { w with fractionalTimer := NUM.fadd w.fractionalTimer step } else w) := by
  rw [fpFetchLoop, if_pos h]
  simp only [hfetch]

/-- From a timer of at least −1.0 and with a step of at least 0.75, where the timer stands when `n` fetches are left: −1.0, −0.25, 0.5,
1.25 (R617). -/
def loopFloor : Nat → NUM
  | 0 => 0x3FA00000#32
  | 1 => 0x3F000000#32
  | 2 => 0xBE800000#32
  | _ => 0xBF800000#32

/-- The timer of a voice inside the loop, with `n` fetches left. -/
abbrev FpVoice.LoopTimer (n : Nat) (v : FpVoice) : Prop :=
  NUM.isFinite v.fractionalTimer = true ∧ NUM.val (loopFloor n) ≤ NUM.val v.fractionalTimer ∧
    NUM.val v.fractionalTimer < 1024 * (NUM.one149 : Int)

/-- A step of a period above 60: from 0.75 up to 1000.0 (R214). -/
abbrev StepInRange (step : NUM) : Prop :=
  NUM.isFinite step = true ∧ 3 * (NUM.one149 : Int) ≤ 4 * NUM.val step ∧ NUM.val step ≤ 1000 * (NUM.one149 : Int)

theorem isFinite_of_val_bounds {x : NUM} (hlo : -(1024 * (NUM.one149 : Int)) ≤ NUM.val x) (hhi : NUM.val x ≤ 1024 * (NUM.one149 : Int)) :
    NUM.isFinite x = true := by
  have hval : NUM.val 0x44800000#32 = 1024 * (NUM.one149 : Int) := by decide
  refine NUM.isFinite_of_val_le (y := 0x44800000#32) (by decide) ?_
  rw [hval]
  omega

theorem flt_one_iff {x : NUM} (h : NUM.isFinite x = true) : NUM.flt x NUM.one = true ↔ NUM.val x < (NUM.one149 : Int) := by
  have hnan : NUM.isNaN NUM.one = false := by decide
  rw [NUM.flt, NUM.isNaN_of_isFinite h, hnan, val_one]
  simp

theorem step_lower_bound {one clock p step : Int} (hone : 0 < one) (hstep : 4 * step = 3 * one) (hclock : 10 * clock ≤ 812 * one)
    (hp : 61 ≤ p) : step * clock ≤ p * one * one := by
  have hproduct : 4 * (step * clock) = 3 * (one * clock) := by rw [← mul_assoc, hstep, mul_assoc]
  have hscaled := mul_le_mul_of_nonneg_left hclock hone.le
  have hperiod := mul_le_mul_of_nonneg_right hp (mul_nonneg hone.le hone.le)
  have hsquare := mul_nonneg hone.le hone.le
  linarith

theorem step_upper_bound {one clock p : Int} (hone : 0 < one) (hclock : 80 * one ≤ clock) (hp : p ≤ 65535) :
    p * one * one ≤ 1000 * one * clock := by
  have hscaled := mul_le_mul_of_nonneg_left hclock hone.le
  have hperiod := mul_le_mul_of_nonneg_right hp (mul_nonneg hone.le hone.le)
  have hsquare := mul_nonneg hone.le hone.le
  linarith

theorem stepInRange_fpStep (c : Config) {p : Nat} (hlo : 60 < p) (hhi : p ≤ 65535) : StepInRange (fpStep c p) := by
  obtain ⟨hfinite, hval⟩ := NUM.toNUM_exact (i := (p : Int)) (by omega)
  obtain ⟨hclock, hclockLo, hclockHi⟩ : NUM.isFinite c.chipClock = true ∧ 80 * (NUM.one149 : Int) ≤ NUM.val c.chipClock ∧
      10 * NUM.val c.chipClock ≤ 812 * (NUM.one149 : Int) := by
    unfold Config.chipClock
    cases c.video <;> decide
  have hone : (0 : Int) < NUM.one149 := by exact_mod_cast NUM.one149_pos
  have hthree : 4 * NUM.val 0x3F400000#32 = 3 * (NUM.one149 : Int) := by decide
  have hthousand : NUM.val 0x447A0000#32 = 1000 * (NUM.one149 : Int) := by decide
  have hclockPos : 0 < NUM.val c.chipClock := lt_of_lt_of_le (mul_pos (by norm_num) hone) hclockLo
  have hlower : NUM.val 0x3F400000#32 ≤ NUM.val (fpStep c p) :=
    NUM.le_val_fdiv hfinite hclock hclockPos (by decide)
      (by rw [hval]; exact step_lower_bound hone hthree hclockHi (by exact_mod_cast hlo))
  have hupper : NUM.val (fpStep c p) ≤ NUM.val 0x447A0000#32 :=
    NUM.val_fdiv_le hfinite hclock hclockPos (by decide)
      (by rw [hval, hthousand]; exact step_upper_bound hone hclockLo (by exact_mod_cast hhi))
  clear hval hclockLo hclockHi
  rw [hthousand] at hupper
  exact ⟨isFinite_of_val_bounds (by omega) (by omega), by omega, hupper⟩

/-- One step on from a timer still below 1.0. -/
theorem loopTimer_step {n : Nat} (hn : n ≤ 2) (hstep : StepInRange step) {x : NUM} (hfinite : NUM.isFinite x = true)
    (hlo : NUM.val (loopFloor (n + 1)) ≤ NUM.val x) (hhi : NUM.val x < (NUM.one149 : Int)) :
    NUM.isFinite (NUM.fadd x step) = true ∧ NUM.val (loopFloor n) ≤ NUM.val (NUM.fadd x step) ∧
      NUM.val (NUM.fadd x step) < 1024 * (NUM.one149 : Int) := by
  obtain ⟨hstepFinite, hstepLo, hstepHi⟩ := hstep
  have hone : (0 : Int) < NUM.one149 := by exact_mod_cast NUM.one149_pos
  have hmax : NUM.val 0x447A4000#32 = 1001 * (NUM.one149 : Int) := by decide
  have hfloor : 4 * NUM.val (loopFloor n) = 4 * NUM.val (loopFloor (n + 1)) + 3 * (NUM.one149 : Int) ∧
      NUM.isNaN (loopFloor n) = false ∧ -(NUM.one149 : Int) ≤ NUM.val (loopFloor n) := by
    interval_cases n <;> decide
  obtain ⟨hfloor, hnan, hmin⟩ := hfloor
  have hlower : NUM.val (loopFloor n) ≤ NUM.val (NUM.fadd x step) := NUM.le_val_fadd hfinite hstepFinite hnan (by omega)
  have hupper : NUM.val (NUM.fadd x step) ≤ NUM.val 0x447A4000#32 := NUM.val_fadd_le hfinite hstepFinite (by decide) (by omega)
  rw [hmax] at hupper
  exact ⟨isFinite_of_val_bounds (by omega) (by omega), hlower, by omega⟩

/-- The loop ends within its fetches, with the voice in range: with no fetch left the timer is at 1.25 or more (R617). -/
theorem fpFetchLoop_inRange (hwf : m.wf = true) (hlen : m.length < 2 ^ 32) (hstep : StepInRange step) {n : Nat} (hn : n ≤ 3)
    (h : v.InRangeUntimed) (htimer : v.enabled = true → v.LoopTimer n) :
    Sound FpVoice.InRange ArenaStop (fpFetchLoop m step n v).1 (fpFetchLoop m step n v).2 := by
  induction n generalizing v with
  | zero =>
    have hfloor : (NUM.one149 : Int) ≤ NUM.val (loopFloor 0) := by decide
    have hrest : (v.enabled && NUM.flt v.fractionalTimer NUM.one) = false := by
      cases he : v.enabled with
      | false => rfl
      | true =>
        obtain ⟨hfinite, hlo, -⟩ := htimer he
        rw [Bool.true_and, Bool.eq_false_iff, ne_eq, flt_one_iff hfinite]
        omega
    rw [fpFetchLoop_of_rest 0 hrest]
    refine (fpInRange_iff v).mpr ⟨h, fun he => ?_⟩
    obtain ⟨hfinite, hlo, hhi⟩ := htimer he
    exact ⟨hfinite, by omega, hhi⟩
  | succ n ih =>
    cases hgoes : v.enabled && NUM.flt v.fractionalTimer NUM.one with
    | false =>
      rw [fpFetchLoop_of_rest _ hgoes]
      refine (fpInRange_iff v).mpr ⟨h, fun he => ?_⟩
      obtain ⟨hfinite, -, hhi⟩ := htimer he
      rw [he, Bool.true_and, Bool.eq_false_iff, ne_eq, flt_one_iff hfinite] at hgoes
      exact ⟨hfinite, by omega, hhi⟩
    | true =>
      obtain ⟨he, hlt⟩ := (Bool.and_eq_true _ _).mp hgoes
      obtain ⟨hfinite, hlo, -⟩ := htimer he
      rw [flt_one_iff hfinite] at hlt
      have hfetch := fpFetch_inRange hwf hlen h
      obtain ⟨hkept, -⟩ := fpFetch_timer m v
      cases hr : fpFetch m v with
      | mk w e =>
        rw [hr] at hfetch hkept
        cases e with
        | some e =>
          rw [fpFetchLoop_of_stop n hgoes hr]
          exact hfetch
        | none =>
          rw [fpFetchLoop_of_fetch n hgoes hr]
          dsimp only at hkept
          split
          · exact ih (by omega) hfetch fun _ => by
              rw [hkept]
              exact loopTimer_step (by omega) hstep hfinite hlo hlt
          next hoff => exact ih (by omega) hfetch fun hon => absurd hon hoff

/-- Inside its regions a voice's fetches never leave the arena. -/
theorem fpFetchLoop_inside (hwf : m.wf = true) (n : Nat) (h : v.Inside m.length) :
    Sound (FpVoice.Inside m.length) (· = .fetchLoop) (fpFetchLoop m step n v).1 (fpFetchLoop m step n v).2 := by
  induction n generalizing v with
  | zero =>
    cases hgoes : v.enabled && NUM.flt v.fractionalTimer NUM.one with
    | false => rw [fpFetchLoop_of_rest _ hgoes]; exact h
    | true => rw [fpFetchLoop_zero hgoes]; exact rfl
  | succ n ih =>
    cases hgoes : v.enabled && NUM.flt v.fractionalTimer NUM.one with
    | false => rw [fpFetchLoop_of_rest _ hgoes]; exact h
    | true =>
      obtain ⟨hstop, hinside⟩ := fpFetch_inside hwf h
      rw [fpFetchLoop_of_fetch n hgoes (w := (fpFetch m v).1) (by rw [← hstop])]
      split
      · exact ih hinside
      · exact ih hinside

end

/-! ### The sample -/

section
variable {c : Config} {m : Memory} {v : FpVoice}

theorem fpTime_of_delay (h : 0 < v.delay) : fpTime c m v = ({ v with delay := v.delay - 1 }, none) := by
  rw [fpTime, if_pos h]

theorem fpTime_of_no_delay (h : v.delay = 0) :
    fpTime c m v =
      fpFetchLoop m (fpStep c v.period) fpMaxFetches { v with fractionalTimer := NUM.fsub v.fractionalTimer NUM.one } := by
  rw [fpTime, if_neg (by omega)]

/-- A timer in range less 1.0 is where the loop of three fetches may start. -/
theorem loopTimer_start {x : NUM} (hfinite : NUM.isFinite x = true) (hlo : 0 ≤ NUM.val x)
    (hhi : NUM.val x < 1024 * (NUM.one149 : Int)) :
    NUM.isFinite (NUM.fsub x NUM.one) = true ∧ NUM.val (loopFloor fpMaxFetches) ≤ NUM.val (NUM.fsub x NUM.one) ∧
      NUM.val (NUM.fsub x NUM.one) < 1024 * (NUM.one149 : Int) := by
  have hone : (0 : Int) < NUM.one149 := by exact_mod_cast NUM.one149_pos
  have hneg : NUM.val NUM.one.neg = -(NUM.one149 : Int) := by decide
  have hfloor : NUM.val (loopFloor fpMaxFetches) = -(NUM.one149 : Int) := by decide
  have hmax : NUM.val 0x447FC000#32 = 1023 * (NUM.one149 : Int) := by decide
  have hlower : NUM.val (loopFloor fpMaxFetches) ≤ NUM.val (NUM.fsub x NUM.one) :=
    NUM.le_val_fadd hfinite (by decide) (by decide) (by omega)
  have hupper : NUM.val (NUM.fsub x NUM.one) ≤ NUM.val 0x447FC000#32 := NUM.val_fadd_le hfinite (by decide) (by decide) (by omega)
  rw [hmax] at hupper
  exact ⟨isFinite_of_val_bounds (by omega) (by omega), hlower, by omega⟩

theorem fpTime_inRange (hwf : m.wf = true) (hlen : m.length < 2 ^ 32) (hperiod : 60 < v.period) (h : v.InRange) :
    Sound FpVoice.InRange ArenaStop (fpTime c m v).1 (fpTime c m v).2 := by
  rcases Nat.eq_zero_or_pos v.delay with hdelay | hdelay
  · obtain ⟨huntimed, htimer⟩ := (fpInRange_iff v).mp h
    rw [fpTime_of_no_delay hdelay]
    refine fpFetchLoop_inRange hwf hlen (stepInRange_fpStep c hperiod h.1) (le_refl 3) huntimed fun he => ?_
    obtain ⟨hfinite, hlo, hhi⟩ := htimer he
    exact loopTimer_start hfinite hlo hhi
  · rw [fpTime_of_delay hdelay]
    obtain ⟨hp, hvolume, hdelay2, hrest⟩ := h
    exact ⟨hp, hvolume, by dsimp only; omega, hrest⟩

theorem fpTime_inside (hwf : m.wf = true) (h : v.Inside m.length) :
    Sound (FpVoice.Inside m.length) (· = .fetchLoop) (fpTime c m v).1 (fpTime c m v).2 := by
  rcases Nat.eq_zero_or_pos v.delay with hdelay | hdelay
  · rw [fpTime_of_no_delay hdelay]
    exact fpFetchLoop_inside hwf _ h
  · rw [fpTime_of_delay hdelay]
    exact h

theorem gate_open (he : v.enabled = true) (hperiod : 60 < v.period) : (!v.enabled || decide (v.period ≤ fpMinPeriod)) = false := by
  rw [he, decide_eq_false (by rw [fpMinPeriod]; omega)]
  rfl

theorem fpVoiceSample_of_stop {w : FpVoice} {e : MixStop} (a : Frame) (he : v.enabled = true) (hperiod : 60 < v.period)
    (h : fpTime c m v = (w, some e)) : fpVoiceSample c m v a = ⟨w, a, some e⟩ := by
  rw [fpVoiceSample, if_neg (by simp [gate_open he hperiod])]
  simp only [h]

theorem fpVoiceSample_of_disabling {w : FpVoice} (a : Frame) (he : v.enabled = true) (hperiod : 60 < v.period)
    (h : fpTime c m v = (w, none)) (hw : w.enabled = false) : fpVoiceSample c m v a = ⟨w, a, none⟩ := by
  rw [fpVoiceSample, if_neg (by simp [gate_open he hperiod])]
  simp [h, hw]

theorem fpVoiceSample_of_sounding {w : FpVoice} (a : Frame) (he : v.enabled = true) (hperiod : 60 < v.period)
    (h : fpTime c m v = (w, none)) (hw : w.enabled = true) :
    fpVoiceSample c m v a = ⟨fpHold c w, addFrame a (fpHold c w).heldL (fpHold c w).heldR, none⟩ := by
  rw [fpVoiceSample, if_neg (by simp [gate_open he hperiod])]
  simp [h, hw]

/-- What the timing part of a processed voice ends well with, a sample ends well with, as the held values are no part of it. -/
theorem fpVoiceSample_sound {P : FpVoice → Prop} {E : MixStop → Prop} (a : Frame) (h : P v) (hhold : ∀ w, P w → P (fpHold c w))
    (htime : v.enabled = true → 60 < v.period → Sound P E (fpTime c m v).1 (fpTime c m v).2) :
    Sound P E (fpVoiceSample c m v a).voices (fpVoiceSample c m v a).stop := by
  by_cases hgo : v.enabled = true ∧ 60 < v.period
  · obtain ⟨he, hperiod⟩ := hgo
    have hend := htime he hperiod
    cases ht : fpTime c m v with
    | mk w e =>
      rw [ht] at hend
      cases e with
      | some e => rw [fpVoiceSample_of_stop a he hperiod ht]; exact hend
      | none =>
        cases hw : w.enabled with
        | false => rw [fpVoiceSample_of_disabling a he hperiod ht hw]; exact hend
        | true => rw [fpVoiceSample_of_sounding a he hperiod ht hw]; exact hhold w hend
  · rw [fpVoiceSample_of_skipped (by rw [fpMinPeriod]; by_contra hno; simp at hno; exact hgo hno)]
    exact h

theorem fpHold_inRange (h : v.InRange) : (fpHold c v).InRange := by
  unfold fpHold
  split <;> exact h

theorem fpVoiceSample_inRange (hwf : m.wf = true) (hlen : m.length < 2 ^ 32) (a : Frame) (h : v.InRange) :
    Sound FpVoice.InRange ArenaStop (fpVoiceSample c m v a).voices (fpVoiceSample c m v a).stop :=
  fpVoiceSample_sound a h (fun _ hw => fpHold_inRange hw) fun _ hperiod => fpTime_inRange hwf hlen hperiod h

theorem fpVoiceSample_inside (hwf : m.wf = true) (a : Frame) (h : v.enabled = true → v.Inside m.length) :
    Sound (fun w : FpVoice => w.enabled = true → w.Inside m.length) (· = .fetchLoop) (fpVoiceSample c m v a).voices
      (fpVoiceSample c m v a).stop := by
  refine fpVoiceSample_sound a h (fun w hw => ?_) fun he _ => ?_
  · unfold fpHold
    split <;> exact hw
  · have htime := fpTime_inside (c := c) hwf (h he)
    cases ht : (fpTime c m v).2 with
    | none =>
      rw [ht] at htime
      exact fun _ => htime
    | some e =>
      rw [ht] at htime
      exact htime

end

/-! ### The segment and the obligations -/

section
variable {s t u : State}

theorem arena_length_lt (hvalid : s.cfg.valid = true) (hlen : s.arenaLen ≤ s.cfg.arenaCap) : s.arena.length < 2 ^ 32 := by
  simp only [Config.valid, Bool.and_eq_true, decide_eq_true_eq] at hvalid
  obtain ⟨⟨⟨-, hcap⟩, -⟩, -⟩ := hvalid
  unfold State.arenaLen at hlen
  omega

/-- On the fixed-period backend a segment keeps every voice in range, or stops at an arena read. -/
theorem mixSegment_fpInRange (i0 seg : Nat) (hb : s.cfg.backend = .fp) (hvalid : s.cfg.valid = true)
    (harena : s.arena.wf = true ∧ s.arenaLen ≤ s.cfg.arenaCap) (h : ∀ v ∈ s.fp, v.InRange) :
    Sound (fun u : State => ∀ v ∈ u.fp, v.InRange) ArenaStop (mixSegment i0 seg s).1 (mixSegment i0 seg s).2 :=
  mixSegment_sound_fp i0 seg hb (fun _ a hv => fpVoiceSample_inRange harena.1 (arena_length_lt hvalid harena.2) a hv) h

theorem fpInRange_of_segment (hpass : s.InPass) (h : ∀ v ∈ s.fp, v.InRange) (hu : Segment s u) : ∀ v ∈ u.fp, v.InRange := by
  cases hu with
  | nothing => exact h
  | @mixed u hgo hmix =>
    show ∀ v ∈ u.fp, v.InRange
    cases hb : s.cfg.backend with
    | fp =>
      have hsound := mixSegment_fpInRange s.rc.rProduced s.segLength hb hpass.valid hpass.arena h
      rw [hmix] at hsound
      exact hsound
    | vr =>
      have hfp := mixSegment_fp_of_vr (s := s) s.rc.rProduced s.segLength hb
      rw [hmix] at hfp
      rw [hfp]
      exact h

theorem afterSegment_fp (s : State) : (afterSegment s).fp = s.fp := by
  rcases afterSegment_cases s with ⟨-, heq⟩ | ⟨-, -, heq⟩ | ⟨-, -, heq⟩ <;> rw [heq] <;> rfl

theorem fpInRange_of_runs (hpass : s.InPass) (h : ∀ v ∈ s.fp, v.InRange) (hrun : Runs s t) : t.FpInRange := by
  cases hrun with
  | ended hu => exact fun _ => (afterSegment_fp _).symm ▸ fpInRange_of_segment hpass h hu
  | faulted => exact fun hno => absurd hno (by simp)

theorem modFp_inRange {v : Nat} {f : FpVoice → FpVoice} (hf : FpWriteKeeps f) (h : ∀ x ∈ s.fp, x.InRange) :
    ∀ x ∈ (s.modFp v f).fp, x.InRange := by
  intro x hx
  obtain ⟨i, hi⟩ := List.mem_iff_getElem?.mp hx
  rw [State.modFp, List.getElem?_modify] at hi
  obtain ⟨y, hy, rfl⟩ := Option.map_eq_some_iff.mp hi
  have hin := h y (List.mem_iff_getElem?.mpr ⟨i, hy⟩)
  split
  · exact hf y hin
  · exact hin

theorem fpInRange_of_does {i : Instr} (hinv : s.Inv) (h : s.FpInRange) (hdoes : Does s i t) : t.FpInRange := by
  cases hdoes with
  | refused | vrWrote | drained | setsink | stored | settempo | setspeed | setloop | setled | reported => exact h
  | fpWrote hi hfault hkeeps => exact fun _ => modFp_inRange hkeeps (h hfault)
  | reset => exact fun _ => fpBank_inRange s.cfg
  | init => exact fun _ => fpBank_inRange s.cfg
  | rendered d hfault hpending hstate hchunk hrun =>
    exact fpInRange_of_runs (inPass_startPass hinv hfault hpending hstate hchunk d.isLt) (h hfault) hrun
  | @ticked t d e hd hfault hpending hrun =>
    exact fpInRange_of_runs (inPass_tickReturn e hinv hpending) ((tickReturn_fp s e).symm ▸ h hfault) hrun
  | foundNaN => exact fun hno => absurd hno (by simp)

/-- Settles O22: no command but a write, RESET, INIT and a mixing changes a voice, and each keeps its ranges. -/
theorem stepKeepsFixedPeriodVoices : Obligations.StepKeepsFixedPeriodVoices := by
  intro s t hinv h hstep
  rcases step_next_cases hstep with rfl | ⟨c, rest, -, ⟨e, -, rfl⟩ | ⟨i, -, hdoes⟩⟩
  · exact h
  · exact h
  · exact fpInRange_of_does (s := s.takeCommand c rest) hinv h hdoes

/-- Settles O46: inside its regions a voice could stop a segment only in the bound of R617, and in range it never does. -/
theorem fpRegionsInsideNeverFault : Obligations.FpRegionsInsideNeverFault := by
  rintro s i0 seg hb ⟨hvalid, harena, -, -⟩ hfault hrange ⟨hinside, hvr⟩
  have hin := mixSegment_fpInRange i0 seg hb hvalid harena (hrange hfault)
  have hregions : Sound (fun u : State => ∀ v ∈ u.fp, v.enabled = true → v.Inside s.arena.length) (· = .fetchLoop) (mixSegment i0 seg s).1
      (mixSegment i0 seg s).2 := mixSegment_sound_fp i0 seg hb (fun _ a hv => fpVoiceSample_inside harena.1 a hv) hinside
  have hstop : (mixSegment i0 seg s).2 = none := by
    cases he : (mixSegment i0 seg s).2 with
    | none => rfl
    | some e =>
      rw [he] at hin hregions
      obtain ⟨a, rfl⟩ := hin
      cases hregions
  rw [hstop] at hregions
  obtain ⟨-, -, -, harena', -⟩ := mixSegment_frame i0 seg s
  refine ⟨hstop, ?_, ?_⟩
  · rw [State.arenaLen, harena']
    exact hregions
  · rw [State.arenaLen, harena', mixSegment_vr_of_fp i0 seg hb]
    exact hvr

end

end Sys2Proof.Machine

/-! The timing of a fixed-period sample from its trigger on (R211, R214, R217), and the obligation O44. -/

namespace Sys2Proof.Machine

section
variable {c : Config} {m : Memory} {v : FpVoice}

/-- The held values are all a sample adds to what its timing part leaves. -/
theorem fpHold_keeps (c : Config) (v : FpVoice) : fpHold c v = { v with heldL := (fpHold c v).heldL, heldR := (fpHold c v).heldR } := by
  unfold fpHold
  split <;> rfl

theorem fpHold_of_mute (h : v.mute = true) : fpHold c v = v := if_pos h

theorem fpHold_of_unmuted (h : v.mute = false) : fpHold c v = { v with heldL := (fpGained c v).1, heldR := (fpGained c v).2 } := by
  rw [fpHold, if_neg (by simp [h])]

/-- A processed voice's sample by its timing part. -/
theorem fpVoiceSample_of_time (a : Frame) (he : v.enabled = true) (hperiod : 60 < v.period) :
    let r := fpVoiceSample c m v a
    let t := fpTime c m v
    r.stop = t.2 ∧ r.voices = { t.1 with heldL := r.voices.heldL, heldR := r.voices.heldR } ∧
    (t.2 = none →
      (t.1.enabled = false → r.voices = t.1 ∧ r.frames = a) ∧
      (t.1.enabled = true →
        r.frames = ⟨NUM.fadd a.l r.voices.heldL, NUM.fadd a.r r.voices.heldR⟩ ∧
        (v.mute = true → r.voices.heldL = v.heldL ∧ r.voices.heldR = v.heldR))) := by
  dsimp only
  obtain ⟨hmute, -, -, -, -, -, hheldL, hheldR⟩ := fpTime_keeps c m v
  cases ht : fpTime c m v with
  | mk w e =>
    rw [ht] at hmute hheldL hheldR
    dsimp only at hmute hheldL hheldR
    cases e with
    | some e =>
      rw [fpVoiceSample_of_stop a he hperiod ht]
      exact ⟨rfl, rfl, fun hno => by cases hno⟩
    | none =>
      rcases Bool.eq_false_or_eq_true w.enabled with hw | hw
      case inr =>
        rw [fpVoiceSample_of_disabling a he hperiod ht hw]
        exact ⟨rfl, rfl, fun _ => ⟨fun _ => ⟨rfl, rfl⟩, fun hon => absurd (hw.symm.trans hon) (by decide)⟩⟩
      case inl =>
        rw [fpVoiceSample_of_sounding a he hperiod ht hw]
        refine ⟨rfl, fpHold_keeps c w, fun _ => ⟨fun hoff => absurd (hw.symm.trans hoff) (by decide), fun _ => ⟨rfl, fun hm => ?_⟩⟩⟩
        dsimp only
        rw [fpHold_of_mute (hmute.trans hm), hheldL, hheldR]
        exact ⟨rfl, rfl⟩

theorem chipClock_eq (c : Config) : c.chipClock = if c.video = .pal then 0x42A0DB5F#32 else 0x42A25670#32 := by
  unfold Config.chipClock
  cases c.video <;> rfl

/-- A sample during the trigger delay only counts it down (R217). -/
theorem fpVoiceSample_of_delay (a : Frame) (he : v.enabled = true) (hperiod : 60 < v.period) (hdelay : 0 < v.delay) :
    (fpVoiceSample c m v a).voices = fpHold c { v with delay := v.delay - 1 } := by
  rw [fpVoiceSample_of_sounding a he hperiod (fpTime_of_delay hdelay) he]

/-- The registers a sample's contribution leaves alone, which are all that its timing reads. -/
abbrev FpVoice.SameTiming (v w : FpVoice) : Prop :=
  w = { v with heldL := w.heldL, heldR := w.heldR }

/-- After a rising edge two samples count the delay down, with everything else of the timing as it was (R200, R217). -/
theorem afterSamples_of_trigger (hoff : v.enabled = false) (hperiod : 60 < v.period) {n : Nat} (hn : n ≤ 2) :
    ({ v with enabled := true, delay := 2 - n, fractionalTimer := 0#32 } : FpVoice).SameTiming
      (afterSamples (fpVoiceSample c m) n (fpSetEnabled true v)) := by
  have hstart : fpSetEnabled true v = { v with enabled := true, delay := 2, fractionalTimer := 0#32 } := by
    simp [fpSetEnabled, hoff, fpTriggerDelay]
  have hsample (d : Nat) (l r : NUM) (hd : 0 < d) :
      (fpVoiceSample c m { v with enabled := true, delay := d, fractionalTimer := 0#32, heldL := l, heldR := r } Frame.zero).voices =
        fpHold c { v with enabled := true, delay := d - 1, fractionalTimer := 0#32, heldL := l, heldR := r } :=
    fpVoiceSample_of_delay _ rfl hperiod hd
  have hfirst := hsample 2 v.heldL v.heldR (by decide)
  interval_cases n
  · rw [afterSamples, hstart]
  · rw [afterSamples, afterSamples, hstart, hfirst]
    exact fpHold_keeps c _
  · rw [afterSamples, afterSamples, afterSamples, hstart, hfirst, fpHold_keeps, hsample 1 _ _ (by decide)]
    exact fpHold_keeps c _

end

/-- A pattern from 2.0 on that is positive and finite stands for at least 2.0. -/
theorem two_le_val {x : NUM} (hpos : 0 < NUM.val x) (h : 0x40000000 ≤ x.toNat) : 2 * (NUM.one149 : Int) ≤ NUM.val x := by
  have htwo : NUM.val 0x40000000#32 = 2 * (NUM.one149 : Int) := by decide
  obtain ⟨hsign, hunits, -⟩ := NUM.sign_of_val_pos hpos
  have hmag : NUM.mag 0x40000000#32 ≤ NUM.mag x := by
    have hlt : ¬ 2 ^ 31 ≤ x.toNat := by simpa [NUM.signBit] using hsign
    rw [NUM.mag, NUM.mag, Nat.mod_eq_of_lt (Nat.not_le.mp hlt)]
    exact h
  have hle : NUM.units 0x40000000#32 ≤ NUM.units x := by
    rw [NUM.units_eq, NUM.units_eq]
    exact NUM.magUnits_strictMono.monotone hmag
  have htwoUnits : (NUM.units 0x40000000#32 : Int) = NUM.val 0x40000000#32 := by decide
  rw [← hunits, ← htwo, ← htwoUnits]
  exact_mod_cast hle

/-- From −1.0 a step of 2.0 or more takes the timer to 1.0 or more at once. -/
theorem not_flt_one_of_big_step {step : NUM} (hstep : StepInRange step) (h : 0x40000000 ≤ step.toNat) :
    NUM.flt (NUM.fadd 0xBF800000#32 step) NUM.one = false := by
  obtain ⟨hfinite, hlo, hhi⟩ := hstep
  have hone : (0 : Int) < NUM.one149 := by exact_mod_cast NUM.one149_pos
  have hbig := two_le_val (x := step) (by omega) h
  have hstart : NUM.val 0xBF800000#32 = -(NUM.one149 : Int) := by decide
  have hmax : NUM.val 0x447A0000#32 = 1000 * (NUM.one149 : Int) := by decide
  have hlower : NUM.val NUM.one ≤ NUM.val (NUM.fadd 0xBF800000#32 step) :=
    NUM.le_val_fadd (by decide) hfinite (by decide) (by rw [val_one, hstart]; omega)
  have hupper : NUM.val (NUM.fadd 0xBF800000#32 step) ≤ NUM.val 0x447A0000#32 :=
    NUM.val_fadd_le (by decide) hfinite (by decide) (by rw [hmax, hstart]; omega)
  rw [hmax] at hupper
  rw [val_one] at hlower
  rw [Bool.eq_false_iff, ne_eq, flt_one_iff (isFinite_of_val_bounds (by omega) (by omega))]
  omega

section
variable {c : Config} {m : Memory} {v : FpVoice}

/-- With a step of 2.0 or more the first sample after the delay fetches one byte, the one at the cursor. -/
theorem fpTime_of_big_step {b : Byte} (he : v.enabled = true) (hdelay : v.delay = 0) (htimer : v.fractionalTimer = 0#32)
    (hlo : 60 < v.period) (hhi : v.period ≤ 65535) (hlength : v.length ≠ 0) (hread : m.read v.pointer = some b)
    (hbig : 0x40000000 ≤ (fpStep c v.period).toNat) :
    (fpTime c m v).2 = none ∧ (fpTime c m v).1.enabled = true ∧ (fpTime c m v).1.dac = NUM.ofSample b ∧
      (fpTime c m v).1.length = (if v.length = 1 then v.loopLength else v.length - 1) := by
  have hstart : NUM.fsub 0#32 NUM.one = 0xBF800000#32 := by decide
  have hgoes : (v.enabled && NUM.flt 0xBF800000#32 NUM.one) = true := by
    rw [he]
    decide
  have hrest := not_flt_one_of_big_step (stepInRange_fpStep c hlo hhi) hbig
  rw [fpTime_of_no_delay hdelay, htimer, hstart, show fpMaxFetches = 2 + 1 from rfl]
  rw [fpFetchLoop_of_fetch 2 (by exact hgoes) (by rw [fpFetch_of_length (by exact hlength), fpFetchByte_of_read (by exact hread)])]
  by_cases hlast : v.length = 1
  · rw [if_pos (show v.length - 1 = 0 by omega), if_pos he, fpFetchLoop_of_rest _ (by dsimp only; rw [hrest, Bool.and_false]), if_pos hlast]
    exact ⟨rfl, he, rfl, rfl⟩
  · rw [if_neg (show ¬ v.length - 1 = 0 by omega), if_pos he, fpFetchLoop_of_rest _ (by dsimp only; rw [hrest, Bool.and_false]),
      if_neg hlast]
    exact ⟨rfl, he, rfl, rfl⟩

end

/-- Settles O44: the sample by its timing part, that by its delay and its loop, and a trigger by three samples. -/
theorem triggerDelayIsTwoSamples : Obligations.TriggerDelayIsTwoSamples := by
  refine ⟨fun c m v a hoff => fpVoiceSample_of_skipped (.inl hoff) c m a, fun c m v a he hperiod => fpVoiceSample_of_time a he hperiod,
    fun c m v => ⟨fpTime_of_delay, fun hdelay => ?_⟩, fun m step n v => ⟨fpFetchLoop_of_rest n, fun hgoes w =>
      ⟨fun e => fpFetchLoop_of_stop n hgoes, fpFetchLoop_of_fetch n hgoes⟩⟩,
    fun c m v b hoff hlo hhi hlength hread => ?_⟩
  · rw [fpTime_of_no_delay hdelay, fpStep, chipClock_eq]
    rfl
  · dsimp only
    have hafter {n : Nat} (hn : n ≤ 2) := afterSamples_of_trigger (c := c) (m := m) hoff hlo hn
    have htwo := hafter (le_refl 2)
    refine ⟨by rw [hafter (by decide : 1 ≤ 2)], by rw [htwo], fun n hn => ?_, ?_, fun hbig => ?_⟩
    · rw [hafter hn]
      exact ⟨rfl, rfl, rfl, rfl⟩
    · have hstart : NUM.fsub 0#32 NUM.one = 0xBF800000#32 := by decide
      rw [fpTime_of_no_delay (by rw [htwo]), ← hstart, show (afterSamples (fpVoiceSample c m) 2 (fpSetEnabled true v)).period = v.period by
        rw [htwo]]
      rw [show (afterSamples (fpVoiceSample c m) 2 (fpSetEnabled true v)).fractionalTimer = 0#32 by rw [htwo]]
      rfl
    · have hthree : afterSamples (fpVoiceSample c m) 3 (fpSetEnabled true v) =
          (fpVoiceSample c m (afterSamples (fpVoiceSample c m) 2 (fpSetEnabled true v)) Frame.zero).voices := rfl
      rw [hthree]
      generalize afterSamples (fpVoiceSample c m) 2 (fpSetEnabled true v) = x at htwo ⊢
      obtain ⟨hstop, -, hdac, hleft⟩ := fpTime_of_big_step (c := c) (m := m) (v := x) (b := b) (by rw [htwo]) (by rw [htwo]) (by rw [htwo])
        (by rw [htwo]; exact hlo) (by rw [htwo]; exact hhi) (by rw [htwo]; exact hlength) (by rw [htwo]; exact hread)
        (by rw [htwo]; exact hbig)
      obtain ⟨hsampleStop, hvoices, -⟩ := fpVoiceSample_of_time (c := c) (m := m) (v := x) Frame.zero (by rw [htwo])
        (by rw [htwo]; exact hlo)
      refine ⟨hsampleStop.trans hstop, ?_, ?_⟩
      · rw [hvoices]
        exact hdac
      · rw [hvoices]
        refine hleft.trans ?_
        rw [htwo]

end Sys2Proof.Machine

/-! What a sample contributes on both engines, muted or not (R211, R216, R322 to R324, R329, R331), and the obligation
O45. -/

namespace Sys2Proof.Machine

/-! ### The fixed-period sample and mute -/

section
variable {c : Config} {m : Memory} {v : FpVoice}

/-- A fetch does not look at the mute flag. -/
theorem fpFetch_mute (m : Memory) (v : FpVoice) (b : Bool) :
    fpFetch m { v with mute := b } = ({ (fpFetch m v).1 with mute := b }, (fpFetch m v).2) := by
  have hbyte (u : FpVoice) : fpFetchByte m { u with mute := b } = ({ (fpFetchByte m u).1 with mute := b }, (fpFetchByte m u).2) := by
    cases hread : m.read u.pointer with
    | none => rw [fpFetchByte_of_unreadable hread, fpFetchByte_of_unreadable (by exact hread)]
    | some x =>
      rw [fpFetchByte_of_read hread, fpFetchByte_of_read (by exact hread)]
      dsimp only
      split <;> rfl
  by_cases hlength : v.length = 0
  · by_cases hloop : v.loopLength = 0
    · rw [fpFetch_of_exhausted hlength hloop, fpFetch_of_exhausted (by exact hlength) (by exact hloop)]
      rfl
    · rw [fpFetch_of_reload hlength hloop, fpFetch_of_reload (by exact hlength) (by exact hloop)]
      exact hbyte v.reload
  · rw [fpFetch_of_length hlength, fpFetch_of_length (by exact hlength)]
    exact hbyte v

theorem fpFetchLoop_mute (m : Memory) (step : NUM) (n : Nat) (v : FpVoice) (b : Bool) :
    fpFetchLoop m step n { v with mute := b } = ({ (fpFetchLoop m step n v).1 with mute := b }, (fpFetchLoop m step n v).2) := by
  induction n generalizing v with
  | zero =>
    cases hgoes : v.enabled && NUM.flt v.fractionalTimer NUM.one with
    | false => rw [fpFetchLoop_of_rest _ hgoes, fpFetchLoop_of_rest _ (by exact hgoes)]
    | true => rw [fpFetchLoop_zero hgoes, fpFetchLoop_zero (by exact hgoes)]
  | succ n ih =>
    cases hgoes : v.enabled && NUM.flt v.fractionalTimer NUM.one with
    | false => rw [fpFetchLoop_of_rest _ hgoes, fpFetchLoop_of_rest _ (by exact hgoes)]
    | true =>
      have hfetch := fpFetch_mute m v b
      cases hr : fpFetch m v with
      | mk w e =>
        rw [hr] at hfetch
        cases e with
        | some e => rw [fpFetchLoop_of_stop n hgoes hr, fpFetchLoop_of_stop n (by exact hgoes) hfetch]
        | none =>
          rw [fpFetchLoop_of_fetch n hgoes hr, fpFetchLoop_of_fetch n (by exact hgoes) hfetch]
          dsimp only
          split
          · exact ih { w with fractionalTimer := NUM.fadd w.fractionalTimer step }
          · exact ih w

theorem fpTime_mute (c : Config) (m : Memory) (v : FpVoice) (b : Bool) :
    fpTime c m { v with mute := b } = ({ (fpTime c m v).1 with mute := b }, (fpTime c m v).2) := by
  rcases Nat.eq_zero_or_pos v.delay with hdelay | hdelay
  · rw [fpTime_of_no_delay hdelay, fpTime_of_no_delay (by exact hdelay)]
    exact fpFetchLoop_mute m _ _ { v with fractionalTimer := NUM.fsub v.fractionalTimer NUM.one } b
  · rw [fpTime_of_delay hdelay, fpTime_of_delay (by exact hdelay)]

/-- An unmuted processed voice that is not disabled holds and adds its live contribution (R211, R215). -/
theorem fpVoiceSample_of_unmuted (a : Frame) (he : v.enabled = true) (hperiod : 60 < v.period) (hmute : v.mute = false)
    (hstop : (fpVoiceSample c m v a).stop = none) (hon : (fpVoiceSample c m v a).voices.enabled = true) :
    let r := fpVoiceSample c m v a
    let g := NUM.fmul (NUM.fdiv (NUM.toNUM v.volume) NUM.c64) c.masterFp
    r.voices.heldL = NUM.fmul r.voices.dac (NUM.fmul g (NUM.fsub NUM.one v.pan)) ∧
      r.voices.heldR = NUM.fmul r.voices.dac (NUM.fmul g (NUM.fadd NUM.one v.pan)) ∧
      r.frames = ⟨NUM.fadd a.l r.voices.heldL, NUM.fadd a.r r.voices.heldR⟩ := by
  dsimp only
  obtain ⟨hmuteKept, -, hvolume, hpan, -⟩ := fpTime_keeps c m v
  cases ht : fpTime c m v with
  | mk w e =>
    rw [ht] at hmuteKept hvolume hpan
    dsimp only at hmuteKept hvolume hpan
    cases e with
    | some e =>
      rw [fpVoiceSample_of_stop a he hperiod ht] at hstop
      cases hstop
    | none =>
      rcases Bool.eq_false_or_eq_true w.enabled with hw | hw
      · rw [fpVoiceSample_of_sounding a he hperiod ht hw, fpHold_of_unmuted (hmuteKept.trans hmute)]
        dsimp only [fpGained]
        rw [hvolume, hpan]
        exact ⟨rfl, rfl, rfl⟩
      · rw [fpVoiceSample_of_disabling a he hperiod ht hw] at hon
        exact absurd (hw.symm.trans hon) (by decide)

/-- A muted voice's sample is the unmuted one's with the held values kept, and added if the voice is still enabled (R216). -/
theorem fpVoiceSample_mute {w : FpVoice} {a b : Frame} (h : fpVoiceSample c m { v with mute := false } a = ⟨w, b, none⟩) :
    ∃ b', fpVoiceSample c m { v with mute := true } a = ⟨{ w with mute := true, heldL := v.heldL, heldR := v.heldR }, b', none⟩ ∧
      ((b' = a ∧ b = a ∧ (v.enabled = false ∨ v.period ≤ 60 ∨ w.enabled = false)) ∨
        (b' = ⟨NUM.fadd a.l v.heldL, NUM.fadd a.r v.heldR⟩ ∧ b = ⟨NUM.fadd a.l w.heldL, NUM.fadd a.r w.heldR⟩)) := by
  by_cases hgo : v.enabled = true ∧ 60 < v.period
  · obtain ⟨he, hperiod⟩ := hgo
    obtain ⟨-, -, -, -, -, -, hheldL, hheldR⟩ := fpTime_keeps c m v
    have hunmuted := fpTime_mute c m v false
    have hmuted := fpTime_mute c m v true
    cases ht : fpTime c m v with
    | mk u e =>
      rw [ht] at hunmuted hmuted hheldL hheldR
      dsimp only at hunmuted hmuted hheldL hheldR
      cases e with
      | some e =>
        rw [fpVoiceSample_of_stop a (by exact he) (by exact hperiod) hunmuted] at h
        cases h
      | none =>
        rcases Bool.eq_false_or_eq_true u.enabled with hu | hu
        · rw [fpVoiceSample_of_sounding a (by exact he) (by exact hperiod) hunmuted (by exact hu), fpHold_of_unmuted (by rfl)] at h
          cases h
          rw [fpVoiceSample_of_sounding a (by exact he) (by exact hperiod) hmuted (by exact hu), fpHold_of_mute (by rfl), ← hheldL, ← hheldR]
          exact ⟨_, rfl, .inr ⟨rfl, rfl⟩⟩
        · rw [fpVoiceSample_of_disabling a (by exact he) (by exact hperiod) hunmuted (by exact hu)] at h
          cases h
          rw [fpVoiceSample_of_disabling a (by exact he) (by exact hperiod) hmuted (by exact hu), ← hheldL, ← hheldR]
          exact ⟨_, rfl, .inl ⟨rfl, rfl, .inr (.inr hu)⟩⟩
  · have hskip : v.enabled = false ∨ v.period ≤ 60 := by
      rcases Bool.eq_false_or_eq_true v.enabled with he | he
      · exact .inr (Nat.not_lt.mp fun hperiod => hgo ⟨he, hperiod⟩)
      · exact .inl he
    rw [fpVoiceSample_of_skipped (by exact hskip)] at h
    cases h
    rw [fpVoiceSample_of_skipped (by exact hskip)]
    exact ⟨a, rfl, .inl ⟨rfl, rfl, hskip.imp_right .inl⟩⟩

end

/-! ### What a stream contributes (R322 to R324) -/

section
variable {c : Config} {m : Memory} {t : Stream} {q : Int}

theorem readSample_of_read {b : Byte} (hq : 0 ≤ q) (h : m.read ((t.base : Int) + q).toNat = some b) :
    readSample m t q = .ok (NUM.ofSample b) := by
  rw [readSample]
  simp only [if_neg (Int.not_lt.mpr hq), h]

theorem readSample_of_unreadable (hq : 0 ≤ q) (h : m.read ((t.base : Int) + q).toNat = none) :
    readSample m t q = .error (.arenaRange (min ((t.base : Int) + q).toNat 0xFFFFFFFF)) := by
  have hoffset : ¬ (t.base : Int) + q < 0 := by omega
  rw [readSample]
  simp only [if_neg (Int.not_lt.mpr hq), h, faultOffset, if_neg hoffset]

/-- A read that fails fails with an arena stop. -/
theorem arenaStop_of_readSample {e : MixStop} (h : readSample m t q = .error e) : ArenaStop e := by
  rw [readSample] at h
  split at h
  · cases h
    exact ⟨_, rfl⟩
  · split at h
    · cases h
    · cases h
      exact ⟨_, rfl⟩

theorem streamValue_of_fault {e : MixStop} (h : readSample m t t.pointer = .error e) : streamValue c m t = .error e := by
  rw [streamValue, h]

theorem streamValue_of_fast {x : NUM} (hc : c.quality = .fast) (h : readSample m t t.pointer = .ok x) : streamValue c m t = .ok x := by
  rw [streamValue, h, hc]

theorem streamValue_of_partner_fault {x : NUM} {e : MixStop} (hc : c.quality = .accurate) (h : readSample m t t.pointer = .ok x)
    (hpartner : readSample m t (partner t) = .error e) : streamValue c m t = .error e := by
  rw [streamValue, h, hc]
  simp only [hpartner]

theorem streamValue_of_accurate {x y : NUM} (hc : c.quality = .accurate) (h : readSample m t t.pointer = .ok x)
    (hpartner : readSample m t (partner t) = .ok y) :
    streamValue c m t = .ok (NUM.fadd x (NUM.fmul (NUM.fsub y x) t.fraction)) := by
  rw [streamValue, h, hc]
  simp only [hpartner]

theorem arenaStop_of_streamValue {e : MixStop} (h : streamValue c m t = .error e) : ArenaStop e := by
  cases hr : readSample m t t.pointer with
  | error e' =>
    cases (streamValue_of_fault hr).symm.trans h
    exact arenaStop_of_readSample hr
  | ok x =>
    cases hc : c.quality with
    | fast => cases (streamValue_of_fast hc hr).symm.trans h
    | accurate =>
      cases hp : readSample m t (partner t) with
      | error e' =>
        cases (streamValue_of_partner_fault hc hr hp).symm.trans h
        exact arenaStop_of_readSample hp
      | ok y => cases (streamValue_of_accurate hc hr hp).symm.trans h

/-! ### The partner (R323) -/

theorem partner_of_still (h : t.direction = .still) : partner t = t.pointer := by
  simp [partner, h]

theorem partner_of_not_looped (hdir : t.direction ≠ .still) (h : t.looped = false) :
    partner t = if 0 ≤ t.pointer + t.direction.toInt ∧ t.pointer + t.direction.toInt < t.length then t.pointer + t.direction.toInt
      else t.pointer := by
  simp only [partner, beq_iff_eq, if_neg hdir, h]
  simp only [Bool.not_false, if_true]
  split <;> split <;> omega

theorem partner_of_ahead (hdir : t.direction = .ahead) (h : t.looped = true) :
    partner t = if t.pointer + t.direction.toInt < t.loopEnd then t.pointer + t.direction.toInt
      else if t.loopMode = .forward then t.loopStart + (t.pointer + t.direction.toInt - t.loopEnd) % t.loopLength
      else 2 * t.loopEnd - 1 - (t.pointer + t.direction.toInt) := by
  simp only [partner, hdir, h, wrapForward, beq_iff_eq]
  simp only [reduceCtorEq, if_false, Bool.not_true, Bool.false_eq_true, if_true]
  split <;> split <;> split <;> omega

theorem partner_of_backward (hdir : t.direction = .backward) (h : t.looped = true) :
    partner t = if t.loopStart ≤ t.pointer + t.direction.toInt then t.pointer + t.direction.toInt
      else if t.loopMode = .forward then t.loopEnd - 1 - (t.loopStart - 1 - (t.pointer + t.direction.toInt)) % t.loopLength
      else 2 * t.loopStart - 1 - (t.pointer + t.direction.toInt) := by
  simp only [partner, hdir, h, wrapForward, beq_iff_eq]
  simp only [reduceCtorEq, if_false, Bool.not_true, Bool.false_eq_true]
  split <;> split <;> split <;> omega

end

/-! ### The contribution of a variable-rate voice (R329) -/

section
variable {c : Config} {m : Memory} {v : VrVoice}

theorem vrContribution_of_live_fault {e : MixStop} (h : streamValue c m v.live = .error e) :
    vrContribution c m v = (slewStep v, .error e) := by
  simp [vrContribution, h]

/-- The voice of a crossfade sample once its counter and ramps are set. -/
def ramped (c : Config) (v : VrVoice) : VrVoice := rampStep (gains c (slewStep v)) (slewStep v)

theorem ramped_keeps (c : Config) (v : VrVoice) :
    (ramped c v).live = v.live ∧ (ramped c v).old = v.old ∧ (ramped c v).oldActive = v.oldActive ∧ (ramped c v).enabled = v.enabled ∧
      (ramped c v).mute = v.mute ∧ (ramped c v).mixCounter = v.mixCounter - 1 ∧ (ramped c v).heldL = v.heldL ∧
      (ramped c v).heldR = v.heldR ∧ (ramped c v).oldGainL = v.oldGainL ∧ (ramped c v).oldGainR = v.oldGainR := by
  simp [ramped, rampStep]

theorem oldValue_ramped (c : Config) (m : Memory) (v : VrVoice) : oldValue c m (ramped c v) = oldValue c m v := by
  obtain ⟨-, hold, hactive, -⟩ := ramped_keeps c v
  rw [oldValue, oldValue, hold, hactive]

theorem vrContribution_of_old_fault {x : NUM} {e : MixStop} (hmix : 0 < v.mixCounter) (hx : streamValue c m v.live = .ok x)
    (h : oldValue c m v = .error e) : vrContribution c m v = (ramped c v, .error e) := by
  have hramped := (oldValue_ramped c m v).trans h
  rw [ramped] at hramped ⊢
  simp [vrContribution, hx, hmix, hramped]

theorem vrContribution_of_crossfade {x y : NUM} (hmix : 0 < v.mixCounter) (hx : streamValue c m v.live = .ok x)
    (hy : oldValue c m v = .ok y) :
    vrContribution c m v =
      (oldStep c (ramped c v), .ok (blend x (ramped c v).mixRampUpL y (ramped c v).mixRampDownL,
        blend x (ramped c v).mixRampUpR y (ramped c v).mixRampDownR)) := by
  have hramped := (oldValue_ramped c m v).trans hy
  rw [ramped] at hramped ⊢
  simp [vrContribution, hx, hmix, hramped]

/-- The four ways a contribution can go: a fault of the live stream, no crossfade, a fault of the old stream, a crossfade. -/
theorem vrContribution_cases (c : Config) (m : Memory) (v : VrVoice) :
    (∃ e, streamValue c m v.live = .error e ∧ vrContribution c m v = (slewStep v, .error e)) ∨
      ∃ x, streamValue c m v.live = .ok x ∧
        ((v.mixCounter = 0 ∧ vrContribution c m v =
            (slewStep v, .ok (NUM.fmul x (gains c (slewStep v)).1, NUM.fmul x (gains c (slewStep v)).2))) ∨
          (0 < v.mixCounter ∧
            ((∃ e, oldValue c m v = .error e ∧ vrContribution c m v = (ramped c v, .error e)) ∨
              ∃ y, oldValue c m v = .ok y ∧ vrContribution c m v =
                (oldStep c (ramped c v), .ok (blend x (ramped c v).mixRampUpL y (ramped c v).mixRampDownL,
                  blend x (ramped c v).mixRampUpR y (ramped c v).mixRampDownR))))) := by
  cases hx : streamValue c m v.live with
  | error e => exact .inl ⟨e, rfl, vrContribution_of_live_fault hx⟩
  | ok x =>
    refine .inr ⟨x, rfl, ?_⟩
    rcases Nat.eq_zero_or_pos v.mixCounter with hmix | hmix
    · exact .inl ⟨hmix, vrContribution_of_no_crossfade hmix hx⟩
    · cases hy : oldValue c m v with
      | error e => exact .inr ⟨hmix, .inl ⟨e, rfl, vrContribution_of_old_fault hmix hx hy⟩⟩
      | ok y => exact .inr ⟨hmix, .inr ⟨y, rfl, vrContribution_of_crossfade hmix hx hy⟩⟩

/-- The outgoing stream's step changes that stream alone. -/
theorem oldStep_keeps (c : Config) (v : VrVoice) :
    oldStep c v = { v with old := (oldStep c v).old, oldActive := (oldStep c v).oldActive } := by
  unfold oldStep
  split <;> rfl

theorem oldStep_of_active (h : v.oldActive = true) :
    oldStep c v =
      { v with old := (resolve (advance c v.old)).1, oldActive := !(resolve (advance c v.old)).2 && v.mixCounter != 0 } := by
  rw [oldStep, if_pos h]

theorem oldStep_of_inactive (h : v.oldActive = false) : oldStep c v = v := by
  rw [oldStep, if_neg (by simp [h])]

/-- What a contribution leaves of the registers that the end of the sample reads, and of the crossfade's counter. -/
theorem vrContribution_keeps {w : VrVoice} {lr : NUM × NUM} (h : vrContribution c m v = (w, .ok lr)) :
    w.live = v.live ∧ w.enabled = v.enabled ∧ w.mute = v.mute ∧ w.heldL = v.heldL ∧ w.heldR = v.heldR ∧
      w.mixCounter = v.mixCounter - 1 := by
  rcases vrContribution_cases c m v with ⟨e, -, heq⟩ | ⟨x, -, ⟨hmix, heq⟩ | ⟨-, ⟨e, -, heq⟩ | ⟨y, -, heq⟩⟩⟩
  · cases heq.symm.trans h
  · cases heq.symm.trans h
    simp [hmix]
  · cases heq.symm.trans h
  · cases heq.symm.trans h
    obtain ⟨hlive, -, -, henabled, hmute, hcounter, hheldL, hheldR, -⟩ := ramped_keeps c v
    rw [oldStep_keeps]
    exact ⟨hlive, henabled, hmute, hheldL, hheldR, hcounter⟩

/-! ### Mute on the variable-rate engine (R331) -/

theorem slewStep_mute_write (v : VrVoice) (b : Bool) : slewStep { v with mute := b } = { slewStep v with mute := b } := by
  rw [slewStep_eq, slewStep_eq]

theorem ramped_mute (c : Config) (v : VrVoice) (b : Bool) : ramped c { v with mute := b } = { ramped c v with mute := b } := by
  rw [ramped, ramped, slewStep_mute_write]
  rfl

theorem oldStep_mute (c : Config) (v : VrVoice) (b : Bool) : oldStep c { v with mute := b } = { oldStep c v with mute := b } := by
  rcases Bool.eq_false_or_eq_true v.oldActive with h | h
  · rw [oldStep_of_active h, oldStep_of_active (by exact h)]
  · rw [oldStep_of_inactive h, oldStep_of_inactive (by exact h)]

/-- A contribution does not look at the mute flag. -/
theorem vrContribution_mute (c : Config) (m : Memory) (v : VrVoice) (b : Bool) :
    vrContribution c m { v with mute := b } = ({ (vrContribution c m v).1 with mute := b }, (vrContribution c m v).2) := by
  rcases vrContribution_cases c m v with ⟨e, he, heq⟩ | ⟨x, hx, ⟨hmix, heq⟩ | ⟨hmix, ⟨e, he, heq⟩ | ⟨y, hy, heq⟩⟩⟩
  · rw [heq, vrContribution_of_live_fault (by exact he), slewStep_mute_write]
  · rw [heq, vrContribution_of_no_crossfade (by exact hmix) (by exact hx), slewStep_mute_write]
    rfl
  · rw [heq, vrContribution_of_old_fault (by exact hmix) (by exact hx) (by exact he), ramped_mute]
  · rw [heq, vrContribution_of_crossfade (by exact hmix) (by exact hx) (by exact hy), ramped_mute, oldStep_mute]

theorem vrHold_of_mute {lr : NUM × NUM} (h : v.mute = true) : vrHold lr v = v := if_pos h

theorem vrHold_of_unmuted {lr : NUM × NUM} (h : v.mute = false) : vrHold lr v = { v with heldL := lr.1, heldR := lr.2 } := by
  rw [vrHold, if_neg (by simp [h])]

theorem vrVoiceSample_mute {w : VrVoice} {a b : Frame} (h : vrVoiceSample c m { v with mute := false } a = ⟨w, b, none⟩) :
    ∃ b', vrVoiceSample c m { v with mute := true } a = ⟨{ w with mute := true, heldL := v.heldL, heldR := v.heldR }, b', none⟩ ∧
      ((b' = a ∧ b = a ∧ v.enabled = false) ∨
        (b' = ⟨NUM.fadd a.l v.heldL, NUM.fadd a.r v.heldR⟩ ∧ b = ⟨NUM.fadd a.l w.heldL, NUM.fadd a.r w.heldR⟩)) := by
  rcases Bool.eq_false_or_eq_true v.enabled with he | he
  · have hunmuted := vrContribution_mute c m v false
    have hmuted := vrContribution_mute c m v true
    cases hc : vrContribution c m v with
    | mk u r =>
      rw [hc] at hunmuted hmuted
      cases r with
      | error e =>
        rw [vrVoiceSample_of_fault a (by exact he) hunmuted] at h
        cases h
      | ok lr =>
        obtain ⟨-, -, -, hheldL, hheldR, -⟩ := vrContribution_keeps hc
        rw [vrVoiceSample_of_contribution a (by exact he) hunmuted, vrHold_of_unmuted (by rfl)] at h
        cases h
        rw [vrVoiceSample_of_contribution a (by exact he) hmuted, vrHold_of_mute (by rfl), ← hheldL, ← hheldR]
        exact ⟨_, rfl, .inr ⟨rfl, rfl⟩⟩
  · rw [vrVoiceSample_of_disabled c m a (by exact he)] at h
    cases h
    rw [vrVoiceSample_of_disabled c m a (by exact he)]
    exact ⟨a, rfl, .inl ⟨rfl, rfl, he⟩⟩

end

/-- Settles O45: the unmuted contribution of each engine, a stream's value and its partner, the faults, and mute on each engine. -/
theorem muteHoldsContribution : Obligations.MuteHoldsContribution := by
  refine ⟨fun c m v a he hperiod hmute hstop hon => fpVoiceSample_of_unmuted a he hperiod hmute hstop hon, ?unmuted, ?value, ?partner, ?faults,
    fun c m v w a b h => fpVoiceSample_mute h, fun c m v w a b h => vrVoiceSample_mute h⟩
  case unmuted =>
    intro c m v a x
    dsimp only
    intro he hmix hmute hx
    have hc := vrContribution_of_no_crossfade hmix hx
    obtain ⟨-, -, hkept, -⟩ := vrContribution_keeps hc
    rw [vrVoiceSample_of_contribution a he hc, vrHold_of_unmuted (v := liveStep c (slewStep v)) (hkept.trans hmute)]
    exact ⟨rfl, rfl, rfl, rfl⟩
  case value =>
    intro c m t hpointer
    dsimp only
    refine ⟨fun h => streamValue_of_fault (readSample_of_unreadable hpointer h), fun b0 h0 => ⟨fun hc => ?_, fun hc hq => ⟨fun h => ?_,
      fun b1 h1 => ?_⟩⟩⟩
    · exact streamValue_of_fast hc (readSample_of_read hpointer h0)
    · exact streamValue_of_partner_fault hc (readSample_of_read hpointer h0) (readSample_of_unreadable hq h)
    · exact streamValue_of_accurate hc (readSample_of_read hpointer h0) (readSample_of_read hq h1)
  case partner =>
    intro t
    dsimp only
    rw [← looped_iff]
    refine ⟨partner_of_still, fun hdir h => partner_of_not_looped hdir (Bool.eq_false_iff.mpr h), fun hdir h => ?_, fun hdir h => ?_⟩
    · rw [partner_of_ahead hdir h, Stream.loopEnd, Nat.cast_add]
    · rw [partner_of_backward hdir h, Stream.loopEnd, Nat.cast_add]
  case faults =>
    intro c m v a e he
    refine ⟨fun h => ?_, fun x hx hmix hactive h => ?_⟩
    · rw [vrVoiceSample_of_fault a he (vrContribution_of_live_fault h)]
    · rw [vrVoiceSample_of_fault a he (vrContribution_of_old_fault hmix hx (by rw [oldValue, if_pos hactive]; exact h))]

end Sys2Proof.Machine

/-! The crossfade of a variable-rate voice (R329, R330), and the obligation O51. -/

namespace Sys2Proof.Machine

/-! ### The ends of the ramps -/

/-- A product with 1.0 is the other factor, bit by bit, also for an infinity. -/
theorem fmul_one {g : NUM} (h : NUM.isNaN g = false) : NUM.fmul g NUM.one = g := by
  have hone : NUM.isFinite NUM.one = true ∧ NUM.signBit NUM.one = false ∧ NUM.units NUM.one = NUM.one149 := by decide
  obtain ⟨hfinite, hsign, hunits⟩ := hone
  cases hg : NUM.isFinite g with
  | true =>
    rw [NUM.fmul_of_finite hg hfinite, hsign, hunits]
    exact NUM.ofRat_eq _ NUM.one149_pos h (by simp) rfl
  | false =>
    have hinf : NUM.isInf g = true := by
      rw [Bool.eq_false_iff, ne_eq, NUM.isNaN_iff_mag] at h
      rw [Bool.eq_false_iff, ne_eq, NUM.isFinite_iff_mag] at hg
      rw [NUM.isInf_iff_mag]
      omega
    have hmag : NUM.mag g = 0x7F800000 := (NUM.isInf_iff_mag g).mp hinf
    have hne : NUM.units g ≠ 0 := fun h0 => by
      rw [NUM.units_eq, hmag, NUM.magUnits_inf] at h0
      exact absurd h0 (by positivity)
    have hnan : NUM.isNaN NUM.one = false := by decide
    have hproduct : NUM.fmul g NUM.one = NUM.inf (NUM.signBit g) := by
      simp [NUM.fmul, h, hnan, hinf, hne, hunits, hsign, NUM.one149_pos.ne']
    rw [hproduct]
    exact NUM.eq_of_sign_of_mag (NUM.signBit_ofSignMag _ (by decide)) ((NUM.mag_ofSignMag _ (by decide)).trans hmag.symm)

theorem val_fmul_zero {g : NUM} (h : NUM.isFinite g = true) : NUM.val (NUM.fmul g 0#32) = 0 :=
  (NUM.val_fmul_eq (x := 0#32) h (by decide) (by decide) (by rw [val_zero]; simp)).trans val_zero

/-- The ramp factors of the last sample, `220/220` and `0/220`. -/
theorem rampFactors_last :
    NUM.fdiv (NUM.toNUM 220) NUM.c220 = NUM.one ∧ NUM.fdiv (NUM.toNUM 0) NUM.c220 = 0#32 := by decide

section
variable {c : Config} {m : Memory} {v : VrVoice}

theorem ramped_ramps {n : Nat} (hmix : v.mixCounter = n + 1) :
    (ramped c v).mixRampUpL = NUM.fmul (gains c (slewStep v)).1 (NUM.fdiv (NUM.toNUM (220 - (n : Int))) NUM.c220) ∧
      (ramped c v).mixRampUpR = NUM.fmul (gains c (slewStep v)).2 (NUM.fdiv (NUM.toNUM (220 - (n : Int))) NUM.c220) ∧
      (ramped c v).mixRampDownL = NUM.fmul v.oldGainL (NUM.fdiv (NUM.toNUM n) NUM.c220) ∧
      (ramped c v).mixRampDownR = NUM.fmul v.oldGainR (NUM.fdiv (NUM.toNUM n) NUM.c220) := by
  simp [ramped, rampStep, hmix, xfadeLen]

/-- A sample without a stop of an enabled voice, by its contribution. -/
theorem exists_contribution (a : Frame) (he : v.enabled = true) (hstop : (vrVoiceSample c m v a).stop = none) :
    ∃ w lr, vrContribution c m v = (w, .ok lr) ∧ (vrVoiceSample c m v a).voices = vrHold lr (liveStep c w) := by
  cases hc : vrContribution c m v with
  | mk w r =>
    cases r with
    | error e =>
      rw [vrVoiceSample_of_fault a he hc] at hstop
      cases hstop
    | ok lr =>
      rw [vrVoiceSample_of_contribution a he hc]
      exact ⟨w, lr, rfl, rfl⟩

/-- Holding a contribution changes the held values alone. -/
theorem vrHold_keeps (lr : NUM × NUM) (w : VrVoice) :
    vrHold lr w = { w with heldL := (vrHold lr w).heldL, heldR := (vrHold lr w).heldR } := by
  unfold vrHold
  split <;> rfl

/-- What a sample with no fault leaves of the live stream and the crossfade's counter (R329). -/
theorem vrVoiceSample_live (a : Frame) (he : v.enabled = true) (hstop : (vrVoiceSample c m v a).stop = none) :
    (vrVoiceSample c m v a).voices.mixCounter = v.mixCounter - 1 ∧
      (vrVoiceSample c m v a).voices.live = (resolve (advance c v.live)).1 ∧
      (vrVoiceSample c m v a).voices.enabled = !(resolve (advance c v.live)).2 := by
  obtain ⟨w, lr, hc, hvoices⟩ := exists_contribution a he hstop
  obtain ⟨hlive, henabled, -, -, -, hcounter⟩ := vrContribution_keeps hc
  rw [hvoices, vrHold_keeps]
  show w.mixCounter = _ ∧ (resolve (advance c w.live)).1 = _ ∧ (w.enabled && !(resolve (advance c w.live)).2) = _
  rw [hlive, henabled, he, hcounter, Bool.true_and]
  exact ⟨rfl, rfl, rfl⟩

/-- The last sample of a crossfade drops the old stream and ends on the voice's gains (R330). -/
theorem vrVoiceSample_last (a : Frame) (he : v.enabled = true) (hstop : (vrVoiceSample c m v a).stop = none) (hmix : v.mixCounter = 1) :
    let w := (vrVoiceSample c m v a).voices
    w.oldActive = false ∧ w.mixRampUpL = NUM.fmul (gains c (slewStep v)).1 NUM.one ∧
      w.mixRampUpR = NUM.fmul (gains c (slewStep v)).2 NUM.one ∧ w.mixRampDownL = NUM.fmul v.oldGainL 0#32 ∧
      w.mixRampDownR = NUM.fmul v.oldGainR 0#32 := by
  dsimp only
  obtain ⟨w, lr, hc, hvoices⟩ := exists_contribution a he hstop
  obtain ⟨hup, hdown⟩ := rampFactors_last
  rw [hvoices, vrHold_keeps]
  show w.oldActive = _ ∧ w.mixRampUpL = _ ∧ w.mixRampUpR = _ ∧ w.mixRampDownL = _ ∧ w.mixRampDownR = _
  rcases vrContribution_cases c m v with ⟨e, -, heq⟩ | ⟨x, -, ⟨hzero, -⟩ | ⟨-, ⟨e, -, heq⟩ | ⟨y, -, heq⟩⟩⟩
  · cases heq.symm.trans hc
  · omega
  · cases heq.symm.trans hc
  · cases heq.symm.trans hc
    obtain ⟨-, -, hactive, -, -, hcounter, -⟩ := ramped_keeps c v
    have hramps := ramped_ramps (c := c) (n := 0) hmix
    simp only [Nat.cast_zero, sub_zero] at hramps
    rw [hup, hdown] at hramps
    refine ⟨?_, by rw [oldStep_keeps]; exact hramps⟩
    rcases Bool.eq_false_or_eq_true (ramped c v).oldActive with hon | hoff
    · rw [oldStep_of_active hon, hcounter, hmix]
      simp
    · rw [oldStep_of_inactive hoff, hoff]

end

/-- Settles O51: the live stream at every sample, the ends of the ramps at the last, and the blend while both streams can be read. -/
theorem crossfadeRunsItsLength : Obligations.CrossfadeRunsItsLength := by
  intro c m v a he
  dsimp only
  refine ⟨fun hstop => ?_, fun n sN sO hmix hN hO hgone => ?_⟩
  · obtain ⟨hcounter, hlive, henabled⟩ := vrVoiceSample_live a he hstop
    refine ⟨hcounter, hlive, henabled, fun hlast => ?_⟩
    obtain ⟨hactive, hupL, hupR, hdownL, hdownR⟩ := vrVoiceSample_last a he hstop hlast
    refine ⟨hactive, fun hnan => ?_, fun hnan => ?_, fun hfinite => ?_, fun hfinite => ?_⟩
    · exact hupL.trans (fmul_one hnan)
    · exact hupR.trans (fmul_one hnan)
    · rw [hdownL]
      exact val_fmul_zero hfinite
    · rw [hdownR]
      exact val_fmul_zero hfinite
  · have hold : oldValue c m v = .ok sO := by
      unfold oldValue
      split
      next hon => exact hO hon
      next hoff => rw [hgone (Bool.eq_false_iff.mpr hoff)]
    have hc := vrContribution_of_crossfade (by omega) hN hold
    obtain ⟨-, holdStream, hactive, -, hmute, hcounter, hheldL, hheldR, hgainL, hgainR⟩ := ramped_keeps c v
    obtain ⟨hupL, hupR, hdownL, hdownR⟩ := ramped_ramps (c := c) hmix
    have hcount : (ramped c v).mixCounter = n := by rw [hcounter, hmix, Nat.add_sub_cancel]
    have hstep := oldStep_keeps c (ramped c v)
    have hkeeps := vrHold_keeps (blend sN (ramped c v).mixRampUpL sO (ramped c v).mixRampDownL,
      blend sN (ramped c v).mixRampUpR sO (ramped c v).mixRampDownR) (liveStep c (oldStep c (ramped c v)))
    have hmuteKept : (liveStep c (oldStep c (ramped c v))).mute = v.mute := by
      rw [hstep]
      exact hmute
    rw [vrVoiceSample_of_contribution a he hc]
    dsimp only
    refine ⟨rfl, ?_, ⟨?_, ?_, ?_, ?_⟩, fun hm => ?_, fun hm => ?_, rfl, ⟨?_, ?_⟩, fun hon => ?_, fun hoff => ?_⟩
    · rw [hkeeps, hstep]
      exact hcount
    · rw [hkeeps, hstep]
      exact hupL
    · rw [hkeeps, hstep]
      exact hupR
    · rw [hkeeps, hstep]
      exact hdownL
    · rw [hkeeps, hstep]
      exact hdownR
    · rw [vrHold_of_unmuted (hmuteKept.trans hm), hupL, hupR, hdownL, hdownR]
      exact ⟨rfl, rfl⟩
    · rw [vrHold_of_mute (hmuteKept.trans hm), hstep]
      exact ⟨hheldL, hheldR⟩
    · rw [hkeeps, hstep]
      exact hgainL
    · rw [hkeeps, hstep]
      exact hgainR
    · rw [hkeeps, oldStep_of_active (hactive.trans hon), holdStream, hcount]
      refine ⟨rfl, ?_⟩
      show (_ && n != 0) = _
      cases n <;> rfl
    · rw [hkeeps, oldStep_of_inactive (hactive.trans hoff)]
      exact ⟨holdStream, hactive.trans hoff⟩

end Sys2Proof.Machine

/-! Advance (R325, R326): whole bytes and the exact rest, and the obligation O49. -/

namespace Sys2Proof.NUM

/-! ### Whole parts and rests -/

theorem val_of_nonneg {x : NUM} (h : 0 ≤ x.val) : x.val = x.units := by
  rw [← natAbs_val]
  omega

theorem val_of_sign {x : NUM} (h : x.signBit = false) : x.val = x.units := by
  rw [val_eq, h]
  rfl

/-- What is left of a value over its whole part is a NUM again: it needs no more bits than the value. -/
theorem exists_num_rest {x : NUM} (h : 0 ≤ x.val) :
    ∃ y : NUM, y.isFinite = true ∧ y.val = x.val % (one149 : Int) := by
  obtain ⟨k, q, hmag, hq, hk⟩ := exists_significand x.mag
  have hunits : x.units = q * 2 ^ k := by rw [units_eq, hmag, magUnits_of_significand hq.le hk]
  rw [val_of_nonneg h, hunits, one149]
  by_cases hbig : 149 ≤ k
  · obtain ⟨j, rfl⟩ := Nat.exists_eq_add_of_le hbig
    refine ⟨0#32, by decide, ?_⟩
    have hdvd : 2 ^ 149 ∣ q * 2 ^ (149 + j) := ⟨q * 2 ^ j, by rw [pow_add]; ring⟩
    have hrest := Nat.mod_eq_zero_of_dvd hdvd
    exact Machine.val_zero.trans (by exact_mod_cast hrest.symm)
  · obtain ⟨j, hj⟩ := Nat.exists_eq_add_of_le (Nat.le_of_not_le hbig)
    have hrest : q * 2 ^ k % 2 ^ 149 = q % 2 ^ j * 2 ^ k := by
      rw [hj, pow_add, mul_comm (2 ^ k) (2 ^ j), Nat.mul_mod_mul_right]
    obtain ⟨y, hy, hval⟩ := exists_num (t := ((q % 2 ^ j * 2 ^ k : Nat) : Int)) (u := q % 2 ^ j) (j := k)
      ((Nat.mod_le _ _).trans hq.le) (by omega) rfl
    exact ⟨y, hy, by rw [hval, ← hrest]; exact Int.natCast_mod _ _⟩

/-- Taking the whole part off is exact. -/
theorem fsub_whole {x : NUM} (hx : x.isFinite = true) (h : 0 ≤ x.val) (hn : x.val / (one149 : Int) ≤ 2 ^ 24) :
    (fsub x (toNUM (x.val / (one149 : Int)))).isFinite = true ∧
      (fsub x (toNUM (x.val / (one149 : Int)))).val = x.val % (one149 : Int) := by
  have hnonneg : 0 ≤ x.val / (one149 : Int) := Int.ediv_nonneg h (Int.natCast_nonneg _)
  obtain ⟨hwhole, hwholeVal⟩ := toNUM_exact (i := x.val / (one149 : Int)) (by omega)
  obtain ⟨y, hy, hval⟩ := exists_num_rest h
  have hneg : (toNUM (x.val / (one149 : Int))).neg.isFinite = true := by
    rw [isFinite_iff_units, units_neg, ← isFinite_iff_units]
    exact hwhole
  have heq : (fsub x (toNUM (x.val / (one149 : Int)))).val = y.val := by
    refine val_fadd_eq hx hneg (isNaN_of_isFinite hy) ?_
    rw [val_neg, hwholeVal, hval, Int.emod_def, mul_comm]
    exact Int.sub_eq_add_neg
  exact ⟨isFinite_of_val_le hy (le_of_eq (by rw [heq])), heq.trans hval⟩

/-! ### The largest values below a bound -/

/-- Between neighbouring magnitudes there is no value. -/
theorem val_le_pred {x y z : NUM} (hx : 0 ≤ x.val) (hy : y.signBit = false) (hz : z.signBit = false) (hmag : z.mag = y.mag + 1)
    (h : x.val < z.val) : x.val ≤ y.val := by
  rw [val_of_nonneg hx, val_of_sign hz, units_eq, units_eq, Nat.cast_lt, magUnits_strictMono.lt_iff_lt] at h
  rw [val_of_nonneg hx, val_of_sign hy, units_eq, units_eq, Nat.cast_le, magUnits_strictMono.le_iff_le]
  omega

/-- Below 1.0 the largest value is `1 − 2^−24`. -/
theorem val_le_of_lt_one {x : NUM} (hx : 0 ≤ x.val) (h : x.val < (one149 : Int)) : 2 ^ 24 * x.val ≤ (2 ^ 24 - 1) * (one149 : Int) := by
  have hpred : 2 ^ 24 * val 0x3F7FFFFF#32 = (2 ^ 24 - 1) * (one149 : Int) := by decide
  have hone : val 0x3F800000#32 = (one149 : Int) := by decide
  have hle := val_le_pred (x := x) (y := 0x3F7FFFFF#32) (z := 0x3F800000#32) hx (by decide) (by decide) (by decide) (by rw [hone]; exact h)
  linarith

/-- Below 65536.0 the largest value is `65536 − 2^−8`. -/
theorem val_le_of_lt_c65536 {x : NUM} (hx : 0 ≤ x.val) (h : x.val < 65536 * (one149 : Int)) :
    2 ^ 8 * x.val ≤ (2 ^ 24 - 1) * (one149 : Int) := by
  have hpred : 2 ^ 8 * val 0x477FFFFF#32 = (2 ^ 24 - 1) * (one149 : Int) := by decide
  have hmax : val 0x47800000#32 = 65536 * (one149 : Int) := by decide
  have hle := val_le_pred (x := x) (y := 0x477FFFFF#32) (z := 0x47800000#32) hx (by decide) (by decide) (by decide) (by rw [hmax]; exact h)
  linarith

/-- A finite positive sum is as near to the exact one as any finite value (R11). -/
theorem fadd_nearest {a b y : NUM} (ha : a.isFinite = true) (hb : b.isFinite = true) (hfinite : (fadd a b).isFinite = true)
    (hpos : 0 < a.val + b.val) (hy : y.isFinite = true) (hynonneg : 0 ≤ y.val) :
    ((fadd a b).val - (a.val + b.val)).natAbs ≤ (y.val - (a.val + b.val)).natAbs := by
  have hsum : fadd a b = ofRat false (a.val + b.val).natAbs 1 := by
    rw [fadd_of_finite ha hb, if_neg hpos.ne', decide_eq_false (Int.not_lt.mpr hpos.le)]
  rw [hsum] at hfinite ⊢
  have hval : (ofRat false (a.val + b.val).natAbs 1).val = (ofRat false (a.val + b.val).natAbs 1).units := val_of_sign (signBit_ofRat _ _ _)
  have habs : ((a.val + b.val).natAbs : Int) = a.val + b.val := Int.natAbs_of_nonneg hpos.le
  obtain ⟨-, -, -, hnear⟩ := roundingIsNearestEven false (a.val + b.val).natAbs 1 Nat.one_pos
  obtain ⟨hle, -⟩ := hnear hfinite y hy
  rw [Nat.cast_one, mul_one, mul_one, habs] at hle
  rw [hval, val_of_nonneg hynonneg]
  exact hle

end Sys2Proof.NUM

namespace Sys2Proof.Machine

theorem one_pos : (0 : Int) < NUM.one149 := by exact_mod_cast NUM.one149_pos

section
variable {x y : NUM}

/-- The sum of two fractions stays below 2.0. -/
theorem fraction_sum (hx : NUM.isFinite x = true ∧ 0 ≤ NUM.val x ∧ NUM.val x < (NUM.one149 : Int))
    (hy : NUM.isFinite y = true ∧ 0 ≤ NUM.val y ∧ NUM.val y < (NUM.one149 : Int)) :
    NUM.isFinite (NUM.fadd x y) = true ∧ 0 ≤ NUM.val (NUM.fadd x y) ∧
      2 ^ 23 * NUM.val (NUM.fadd x y) ≤ (2 ^ 24 - 1) * (NUM.one149 : Int) := by
  obtain ⟨hxFinite, hxLo, hxHi⟩ := hx
  obtain ⟨hyFinite, hyLo, hyHi⟩ := hy
  have hone := one_pos
  have hmax : 2 ^ 23 * NUM.val 0x3FFFFFFF#32 = (2 ^ 24 - 1) * (NUM.one149 : Int) := by decide
  have hxMax := NUM.val_le_of_lt_one hxLo hxHi
  have hyMax := NUM.val_le_of_lt_one hyLo hyHi
  have hlower : NUM.val 0#32 ≤ NUM.val (NUM.fadd x y) :=
    NUM.le_val_fadd hxFinite hyFinite (by decide) (by rw [val_zero]; exact add_nonneg hxLo hyLo)
  have hupper : NUM.val (NUM.fadd x y) ≤ NUM.val 0x3FFFFFFF#32 := NUM.val_fadd_le hxFinite hyFinite (by decide) (by linarith)
  rw [val_zero] at hlower
  exact ⟨isFinite_of_val_bounds (by linarith) (by linarith), hlower, by linarith⟩

/-- A sum of fractions that has carried is below 1.0 again when 1.0 is taken off. -/
theorem fraction_carry (hfinite : NUM.isFinite x = true) (hlo : (NUM.one149 : Int) ≤ NUM.val x)
    (hhi : 2 ^ 23 * NUM.val x ≤ (2 ^ 24 - 1) * (NUM.one149 : Int)) :
    NUM.isFinite (NUM.fsub x NUM.one) = true ∧ 0 ≤ NUM.val (NUM.fsub x NUM.one) ∧
      NUM.val (NUM.fsub x NUM.one) < (NUM.one149 : Int) := by
  have hone := one_pos
  have hneg : NUM.val NUM.one.neg = -(NUM.one149 : Int) := by decide
  have hmax : 2 ^ 23 * NUM.val 0x3F7FFFFE#32 = (2 ^ 23 - 1) * (NUM.one149 : Int) := by decide
  have hlower : NUM.val 0#32 ≤ NUM.val (NUM.fsub x NUM.one) :=
    NUM.le_val_fadd hfinite (by decide) (by decide) (by rw [val_zero, hneg]; linarith)
  have hupper : NUM.val (NUM.fsub x NUM.one) ≤ NUM.val 0x3F7FFFFE#32 :=
    NUM.val_fadd_le hfinite (by decide) (by decide) (by rw [hneg]; linarith)
  rw [val_zero] at hlower
  exact ⟨isFinite_of_val_bounds (by linarith) (by linarith), hlower, by linarith⟩

/-- A rounding upwards goes no further than the neighbour below lies below. -/
theorem le_of_nearest {rounded exact below : Int} (h : (rounded - exact).natAbs ≤ (below - exact).natAbs) (hbelow : below ≤ exact) :
    rounded ≤ 2 * exact - below := by
  omega

/-- A fraction and a speed add up to less than 65537.0: what comes nearest to it is rounded down. -/
theorem speed_sum (hx : NUM.isFinite x = true ∧ 0 ≤ NUM.val x ∧ NUM.val x < (NUM.one149 : Int))
    (hy : NUM.isFinite y = true ∧ 0 ≤ NUM.val y ∧ NUM.val y < 65536 * (NUM.one149 : Int)) :
    NUM.isFinite (NUM.fadd x y) = true ∧ 0 ≤ NUM.val (NUM.fadd x y) ∧ NUM.val (NUM.fadd x y) < 65537 * (NUM.one149 : Int) := by
  obtain ⟨hxFinite, hxLo, hxHi⟩ := hx
  obtain ⟨hyFinite, hyLo, hyHi⟩ := hy
  have hone := one_pos
  have hmax : NUM.val 0x47800080#32 = 65537 * (NUM.one149 : Int) := by decide
  have hbelow : 2 ^ 7 * NUM.val 0x4780007F#32 = (65537 * 2 ^ 7 - 1) * (NUM.one149 : Int) := by decide
  have hxMax := NUM.val_le_of_lt_one hxLo hxHi
  have hyMax := NUM.val_le_of_lt_c65536 hyLo hyHi
  have hlower : NUM.val 0#32 ≤ NUM.val (NUM.fadd x y) :=
    NUM.le_val_fadd hxFinite hyFinite (by decide) (by rw [val_zero]; exact add_nonneg hxLo hyLo)
  have hupper : NUM.val (NUM.fadd x y) ≤ NUM.val 0x47800080#32 :=
    NUM.val_fadd_le hxFinite hyFinite (by decide) (by rw [hmax]; linarith)
  rw [val_zero] at hlower
  have hfinite : NUM.isFinite (NUM.fadd x y) = true :=
    NUM.isFinite_of_val_le (y := 0x47800080#32) (by decide) (by omega)
  refine ⟨hfinite, hlower, ?_⟩
  by_cases hsum : NUM.val x + NUM.val y ≤ NUM.val 0x4780007F#32
  · have hle := NUM.val_fadd_le hxFinite hyFinite (by decide) hsum
    linarith
  · have hnear := NUM.fadd_nearest (y := 0x4780007F#32) hxFinite hyFinite hfinite (by linarith) (by decide) (by linarith)
    have hle := le_of_nearest hnear (by linarith)
    linarith

end

/-! ### The two advances -/

/-- A fraction of a stream: in [0, 1) (R53). -/
abbrev FractionInRange (x : NUM) : Prop := NUM.isFinite x = true ∧ 0 ≤ NUM.val x ∧ NUM.val x < (NUM.one149 : Int)

theorem floor_of_finite {x : NUM} (h : NUM.isFinite x = true) : NUM.floor x = NUM.val x / (NUM.one149 : Int) := if_pos h

theorem fge_one_of_finite {x : NUM} (h : NUM.isFinite x = true) : NUM.fge x NUM.one = decide ((NUM.one149 : Int) ≤ NUM.val x) := by
  have hnan : NUM.isNaN NUM.one = false := by decide
  rw [NUM.fge, NUM.isNaN_of_isFinite h, hnan, val_one]
  rfl

/-- The whole part of a value in `[0, bound)`, and the exact rest that taking it off leaves. -/
theorem whole_and_rest {x : NUM} {bound : Int} (hfinite : NUM.isFinite x = true) (hlo : 0 ≤ NUM.val x)
    (hhi : NUM.val x < bound * (NUM.one149 : Int)) (hbound : bound ≤ 2 ^ 24) :
    (0 ≤ NUM.val x / (NUM.one149 : Int) ∧ NUM.val x / (NUM.one149 : Int) < bound) ∧
      FractionInRange (NUM.fsub x (NUM.toNUM (NUM.val x / (NUM.one149 : Int)))) ∧
      NUM.val (NUM.fsub x (NUM.toNUM (NUM.val x / (NUM.one149 : Int)))) = NUM.val x % (NUM.one149 : Int) := by
  have hwhole := Int.ediv_lt_of_lt_mul one_pos hhi
  obtain ⟨hrestFinite, hrest⟩ := NUM.fsub_whole hfinite hlo (hwhole.le.trans hbound)
  refine ⟨⟨Int.ediv_nonneg hlo one_pos.le, hwhole⟩, ⟨hrestFinite, ?_, ?_⟩, hrest⟩
  · rw [hrest]
    exact Int.emod_nonneg _ one_pos.ne'
  · rw [hrest]
    exact Int.emod_lt_of_pos _ one_pos

section
variable {c : Config} {t : Stream}

/-- The whole bytes and the new fraction of a FAST advance (R325). -/
theorem advanceFast_moves (h : t.InRange) :
    let one : Int := NUM.one149
    let d := NUM.val t.speed / one
    let fs := NUM.fsub t.speed (NUM.toNUM d)
    let f := NUM.fadd t.fraction fs
    let carry := decide (one ≤ NUM.val f)
    (0 ≤ d ∧ d ≤ 65535 ∧ NUM.isFinite fs = true ∧ NUM.val fs = NUM.val t.speed % one ∧ NUM.isFinite f = true) ∧
      FractionInRange (if carry then NUM.fsub f NUM.one else f) ∧
      advanceFast t = { t with
        pointer := t.pointer + t.direction.toInt * (if carry then d + 1 else d)
        fraction := if carry then NUM.fsub f NUM.one else f } := by
  dsimp only
  obtain ⟨-, -, hfraction, hspeed, hspeedLo, hspeedHi⟩ := h
  obtain ⟨⟨hd, hd'⟩, hrestRange, hrest⟩ := whole_and_rest hspeed hspeedLo hspeedHi (by norm_num)
  obtain ⟨hfinite, hlo, hhi⟩ := fraction_sum hfraction hrestRange
  refine ⟨⟨hd, by omega, hrestRange.1, hrest, hfinite⟩, ?_, ?_⟩
  · split
    next hcarry => exact fraction_carry hfinite (of_decide_eq_true hcarry) hhi
    next hno => exact ⟨hfinite, hlo, Int.not_le.mp (of_decide_eq_false (Bool.eq_false_iff.mpr hno))⟩
  · simp only [advanceFast, floor_of_finite hspeed, fge_one_of_finite hfinite]
    split <;> rfl

/-- The whole bytes and the new fraction of an ACCURATE advance (R326). -/
theorem advanceAccurate_moves (h : t.InRange) :
    let one : Int := NUM.one149
    let f := NUM.fadd t.fraction t.speed
    let n := NUM.val f / one
    (0 ≤ n ∧ n ≤ 65536 ∧ NUM.isFinite f = true ∧ NUM.val (NUM.fsub f (NUM.toNUM n)) = NUM.val f % one) ∧
      FractionInRange (NUM.fsub f (NUM.toNUM n)) ∧
      advanceAccurate t = { t with
        pointer := t.pointer + t.direction.toInt * n
        fraction := NUM.fsub f (NUM.toNUM n) } := by
  dsimp only
  obtain ⟨-, -, hfraction, hspeed⟩ := h
  obtain ⟨hfinite, hlo, hhi⟩ := speed_sum hfraction hspeed
  obtain ⟨⟨hn, hn'⟩, hrestRange, hrest⟩ := whole_and_rest hfinite hlo hhi (by norm_num)
  refine ⟨⟨hn, by omega, hfinite, hrest⟩, hrestRange, ?_⟩
  simp only [advanceAccurate, floor_of_finite hfinite]

theorem advance_of_fast (hc : c.quality = .fast) : advance c t = advanceFast t := by rw [advance, hc]

theorem advance_of_accurate (hc : c.quality = .accurate) : advance c t = advanceAccurate t := by rw [advance, hc]

/-- An advance moves a stream in range by at most 65536 whole bytes in its direction, and leaves its fraction in range. -/
theorem advance_moves (c : Config) (h : t.InRange) :
    FractionInRange (advance c t).fraction ∧
      ∃ n : Int, 0 ≤ n ∧ n ≤ 65536 ∧ (advance c t).pointer = t.pointer + t.direction.toInt * n := by
  cases hc : c.quality with
  | fast =>
    obtain ⟨⟨hd, hd', -⟩, hrange, heq⟩ := advanceFast_moves h
    rw [advance_of_fast hc, heq]
    refine ⟨hrange, _, ?_, ?_, rfl⟩ <;> split <;> omega
  | accurate =>
    obtain ⟨⟨hn, hn', -⟩, hrange, heq⟩ := advanceAccurate_moves h
    rw [advance_of_accurate hc, heq]
    exact ⟨hrange, _, hn, hn', rfl⟩

end

/-- Settles O49: the two advances, each with its whole bytes and what is left of the fraction. -/
theorem advanceMovesInDirection : Obligations.AdvanceMovesInDirection := by
  intro c t h
  refine ⟨(advance_moves c h).1, fun hc => ?_, fun hc => ?_⟩
  · obtain ⟨hparts, -, heq⟩ := advanceFast_moves h
    exact ⟨hparts, (advance_of_fast hc).trans heq⟩
  · obtain ⟨⟨hn, hn', hfinite, hrest⟩, -, heq⟩ := advanceAccurate_moves h
    refine ⟨⟨hn, hn', hfinite, ?_⟩, (advance_of_accurate hc).trans heq⟩
    rw [advance_of_accurate hc, heq]
    exact hrest

end Sys2Proof.Machine

/-! The variable-rate sample within its ranges and inside the arena (R53, R55, R113, R321, R329), and the obligations O23 and O52. -/

namespace Sys2Proof.Machine

/-! ### A stream's advance and Resolve -/

section
variable {c : Config} {t : Stream}

/-- An advance and a Resolve change the position, the direction and the fraction of a stream, nothing else. -/
theorem resolve_advance_keeps (c : Config) (t : Stream) :
    (resolve (advance c t)).1 =
      { t with
        pointer := (resolve (advance c t)).1.pointer
        fraction := (advance c t).fraction
        direction := (resolve (advance c t)).1.direction } := by
  have hadvance := advance_keeps c t
  rw [resolve_keeps]
  generalize (resolve (advance c t)).1.pointer = p
  generalize (resolve (advance c t)).1.direction = d
  rw [hadvance]

/-- Where an advanced and resolved stream stands: inside its loop, or where the advance took it, which its loop then leaves alone. -/
theorem resolve_advance_pointer (c : Config) (h : t.InRange) :
    (t.looped = true ∧ (t.loopStart : Int) ≤ (resolve (advance c t)).1.pointer ∧ (resolve (advance c t)).1.pointer < t.loopEnd) ∨
      ∃ n : Int, 0 ≤ n ∧ n ≤ 65536 ∧ (resolve (advance c t)).1.pointer = t.pointer + t.direction.toInt * n ∧
        (resolve (advance c t)).1.direction = t.direction ∧
        (t.looped = true → (t.direction = .ahead → t.pointer + t.direction.toInt * n < t.loopEnd) ∧
          (t.direction = .backward → (t.loopStart : Int) ≤ t.pointer + t.direction.toInt * n)) := by
  obtain ⟨-, n, hn, hn', hpointer⟩ := advance_moves c h
  have hkept := advance_keeps c t
  have hlooped : (advance c t).looped = t.looped := by rw [hkept]; rfl
  have hdirection : (advance c t).direction = t.direction := by rw [hkept]
  have hstart : (advance c t).loopStart = t.loopStart := by rw [hkept]
  have hend : (advance c t).loopEnd = t.loopEnd := by rw [hkept]; rfl
  cases hl : t.looped with
  | false =>
    rw [resolve_of_not_looped (hlooped.trans hl)]
    exact .inr ⟨n, hn, hn', hpointer, hdirection, fun hno => absurd hno (by decide)⟩
  | true =>
    rcases Nat.eq_zero_or_pos (advance c t).overshoot with hover | hover
    · have hplay := (playable_iff_overshoot (hlooped.trans hl)).mpr hover
      rw [resolve_of_overshoot_eq_zero (hlooped.trans hl) hover]
      have hwhere := hplay.2 (hlooped.trans hl)
      rw [hdirection, hend, hstart, hpointer] at hwhere
      exact .inr ⟨n, hn, hn', hpointer, hdirection, fun _ => hwhere⟩
    · have hlands := resolve_lands (hlooped.trans hl) hover
      rw [hstart, hend] at hlands
      exact .inl ⟨rfl, hlands⟩

/-- A mixed stream that has advanced and been resolved is in range again: it moved by at most 65536 bytes from a playable place, and past
its loop's end only to land inside the loop. -/
theorem resolve_advance_inRange (c : Config) (h : t.InRange) (hplay : t.Playable) : (resolve (advance c t)).1.InRange := by
  have hfraction := (advance_moves c h).1
  have hwhere := resolve_advance_pointer c h
  obtain ⟨⟨hbase, hlength, hstart, hlen⟩, ⟨hlo, hhi⟩, -, hspeed⟩ := h
  have hend : t.loopEnd = t.loopStart + t.loopLength := rfl
  have hbounds : -65536 ≤ (resolve (advance c t)).1.pointer ∧ (resolve (advance c t)).1.pointer < 2 ^ 33 := by
    rcases hwhere with ⟨-, hland, hland'⟩ | ⟨n, hn, hn', hpointer, -, hloop⟩
    · omega
    · rw [hpointer]
      cases hl : t.looped with
      | false =>
        have hin := hplay.1 hl
        cases hd : t.direction <;> simp only [Direction.toInt] <;> omega
      | true =>
        obtain ⟨hahead, hback⟩ := hloop hl
        cases hd : t.direction <;> simp only [hd, Direction.toInt, forall_const, reduceCtorEq, false_implies] at hahead hback ⊢ <;> omega
  rw [resolve_advance_keeps]
  exact ⟨⟨hbase, hlength, hstart, hlen⟩, hbounds, hfraction, hspeed⟩

theorem extent_of_looped (h : t.looped = true) : t.extent = t.loopEnd := if_pos h

theorem extent_of_not_looped (h : t.looped = false) : t.extent = t.length := by rw [Stream.extent, if_neg (by simp [h])]

/-- A stream inside the arena that has advanced and goes on is inside again. -/
theorem resolve_advance_inside (c : Config) {n : Nat} (h : t.InRange) (hin : t.Inside n) (hgo : (resolve (advance c t)).2 = false) :
    (resolve (advance c t)).1.Inside n := by
  obtain ⟨hplay, hlo, hhi, hroom⟩ := hin
  have hplayable := resolve_playable hgo
  have hwhere := resolve_advance_pointer c h
  have hkept := resolve_advance_keeps c t
  have hlooped : (resolve (advance c t)).1.looped = t.looped := by rw [hkept]; rfl
  have hextent : (resolve (advance c t)).1.extent = t.extent := by rw [hkept]; rfl
  have hbase : (resolve (advance c t)).1.base = t.base := by rw [hkept]
  have hlength : (resolve (advance c t)).1.length = t.length := by rw [hkept]
  refine ⟨hplayable, ?_, ?_, by rw [hbase, hextent]; exact hroom⟩
  all_goals
    cases hl : t.looped with
    | false =>
      have hrange := hplayable.1 (hlooped.trans hl)
      rw [hlength] at hrange
      rw [extent_of_not_looped hl] at hextent
      omega
    | true =>
      rw [extent_of_looped hl] at hhi hextent
      rcases hwhere with ⟨-, hland, hland'⟩ | ⟨n, hn, hn', hpointer, -, hloop⟩
      · omega
      · rw [hpointer]
        obtain ⟨hahead, hback⟩ := hloop hl
        cases hd : t.direction <;> simp only [hd, Direction.toInt, forall_const, reduceCtorEq, false_implies] at hahead hback ⊢ <;> omega

/-! ### What a stream reads inside the arena -/

/-- Inside its extent the second interpolation point is inside too. -/
theorem partner_inside {n : Nat} (hin : t.Inside n) : 0 ≤ partner t ∧ partner t < t.extent := by
  obtain ⟨⟨hplain, hlooped⟩, hlo, hhi, -⟩ := hin
  have hend : t.loopEnd = t.loopStart + t.loopLength := rfl
  cases hl : t.looped with
  | false =>
    rw [extent_of_not_looped hl] at hhi ⊢
    by_cases hd : t.direction = .still
    · rw [partner_of_still hd]
      exact ⟨hlo, hhi⟩
    · rw [partner_of_not_looped hd hl]
      split <;> omega
  | true =>
    have hpos : 0 < t.loopLength := Nat.pos_of_ne_zero ((looped_iff t).mp hl).2
    obtain ⟨hahead, hback⟩ := hlooped hl
    rw [extent_of_looped hl] at hhi ⊢
    cases hd : t.direction with
    | still =>
      rw [partner_of_still hd]
      exact ⟨hlo, hhi⟩
    | ahead =>
      have hin := hahead hd
      rw [partner_of_ahead hd hl, hd, Direction.toInt]
      split
      · omega
      next hpast =>
        split
        · rw [show t.pointer + 1 - (t.loopEnd : Int) = 0 by omega, Int.zero_emod]
          omega
        · omega
    | backward =>
      have hin := hback hd
      rw [partner_of_backward hd hl, hd, Direction.toInt]
      split
      · omega
      next hpast =>
        split
        · rw [show (t.loopStart : Int) - 1 - (t.pointer + -1) = 0 by omega, Int.zero_emod]
          omega
        · omega

theorem readSample_of_inside {m : Memory} {q : Int} (hwf : m.wf = true) (hq : 0 ≤ q) (hlt : q < t.extent)
    (hroom : t.base + t.extent ≤ m.length) : ∃ x, readSample m t q = .ok x := by
  have hsome := (read_isSome_iff m hwf ((t.base : Int) + q).toNat).mpr (by omega)
  obtain ⟨b, hb⟩ := Option.isSome_iff_exists.mp hsome
  exact ⟨_, readSample_of_read hq hb⟩

/-- A stream inside the arena has a value. -/
theorem streamValue_of_inside (c : Config) {m : Memory} (hwf : m.wf = true) (hin : t.Inside m.length) : ∃ x, streamValue c m t = .ok x := by
  obtain ⟨hpartner, hpartner'⟩ := partner_inside hin
  obtain ⟨-, hlo, hhi, hroom⟩ := hin
  obtain ⟨x, hx⟩ := readSample_of_inside hwf hlo hhi hroom
  obtain ⟨y, hy⟩ := readSample_of_inside hwf hpartner hpartner' hroom
  cases hc : c.quality with
  | fast => exact ⟨_, streamValue_of_fast hc hx⟩
  | accurate => exact ⟨_, streamValue_of_accurate hc hx hy⟩

end

/-! ### The sample -/

section
variable {c : Config} {m : Memory} {v w : VrVoice}

/-- What a sample's contribution leaves of the outgoing stream: the stream as it was, or advanced, resolved and kept if it goes on. -/
theorem vrContribution_old {lr : NUM × NUM} (h : vrContribution c m v = (w, .ok lr)) :
    (w.old = v.old ∧ (w.oldActive = true → v.oldActive = true)) ∨
      (v.oldActive = true ∧ w.old = (resolve (advance c v.old)).1 ∧ (w.oldActive = true → (resolve (advance c v.old)).2 = false)) := by
  rcases vrContribution_cases c m v with ⟨e, -, heq⟩ | ⟨x, -, ⟨hmix, heq⟩ | ⟨-, ⟨e, -, heq⟩ | ⟨y, -, heq⟩⟩⟩
  · cases heq.symm.trans h
  · cases heq.symm.trans h
    exact .inl (by simp)
  · cases heq.symm.trans h
  · cases heq.symm.trans h
    obtain ⟨-, hold, hactive, -⟩ := ramped_keeps c v
    rcases Bool.eq_false_or_eq_true v.oldActive with hon | hoff
    · rw [oldStep_of_active (hactive.trans hon), hold]
      refine .inr ⟨hon, rfl, fun hgo => ?_⟩
      simp only [Bool.and_eq_true, Bool.not_eq_true'] at hgo
      exact hgo.1
    · rw [oldStep_of_inactive (hactive.trans hoff), hold, hactive]
      exact .inl ⟨rfl, id⟩

/-- The settings a contribution leaves alone, and the counters it only lowers. -/
theorem vrContribution_settings {lr : NUM × NUM} (h : vrContribution c m v = (w, .ok lr)) :
    (w.volume = v.volume ∧ w.panning = v.panning ∧ w.volCounter ≤ v.volCounter ∧ w.panCounter ≤ v.panCounter) ∧
      w.nextBase = v.nextBase ∧ w.nextLength = v.nextLength ∧ w.nextLoopStart = v.nextLoopStart ∧ w.nextLoopLength = v.nextLoopLength := by
  have hslew : ((slewStep v).volume = v.volume ∧ (slewStep v).panning = v.panning ∧ (slewStep v).volCounter ≤ v.volCounter ∧
      (slewStep v).panCounter ≤ v.panCounter) ∧ (slewStep v).nextBase = v.nextBase ∧ (slewStep v).nextLength = v.nextLength ∧
      (slewStep v).nextLoopStart = v.nextLoopStart ∧ (slewStep v).nextLoopLength = v.nextLoopLength := by
    rw [slewStep_eq]
    exact ⟨⟨rfl, rfl, Nat.sub_le _ _, Nat.sub_le _ _⟩, rfl, rfl, rfl, rfl⟩
  rcases vrContribution_cases c m v with ⟨e, -, heq⟩ | ⟨x, -, ⟨hmix, heq⟩ | ⟨-, ⟨e, -, heq⟩ | ⟨y, -, heq⟩⟩⟩
  · cases heq.symm.trans h
  · cases heq.symm.trans h
    exact hslew
  · cases heq.symm.trans h
  · cases heq.symm.trans h
    rw [oldStep_keeps]
    exact hslew

theorem arenaStop_of_vrContribution {e : MixStop} (h : vrContribution c m v = (w, .error e)) : ArenaStop e := by
  rcases vrContribution_cases c m v with ⟨e', he, heq⟩ | ⟨x, -, ⟨hmix, heq⟩ | ⟨-, ⟨e', he, heq⟩ | ⟨y, -, heq⟩⟩⟩
  · cases heq.symm.trans h
    exact arenaStop_of_streamValue he
  · cases heq.symm.trans h
  · cases heq.symm.trans h
    unfold oldValue at he
    split at he
    · exact arenaStop_of_streamValue he
    · cases he
  · cases heq.symm.trans h

/-- What an enabled voice's contribution ends well with, a sample ends well with. -/
theorem vrVoiceSample_sound {P : VrVoice → Prop} {E : MixStop → Prop} (a : Frame) (h : P v)
    (hstop : ∀ w e, v.enabled = true → vrContribution c m v = (w, .error e) → E e)
    (hgo : ∀ w lr, v.enabled = true → vrContribution c m v = (w, .ok lr) → P (vrHold lr (liveStep c w))) :
    Sound P E (vrVoiceSample c m v a).voices (vrVoiceSample c m v a).stop := by
  rcases Bool.eq_false_or_eq_true v.enabled with he | he
  · cases hc : vrContribution c m v with
    | mk w r =>
      cases r with
      | error e =>
        rw [vrVoiceSample_of_fault a he hc]
        exact hstop w e he hc
      | ok lr =>
        rw [vrVoiceSample_of_contribution a he hc]
        exact hgo w lr he hc
  · rw [vrVoiceSample_of_disabled c m a he]
    exact h

/-- A sample whose contribution reads nothing outside the arena stops nowhere else: any stop is an arena read. -/
theorem vrVoiceSample_arenaStop (c : Config) (m : Memory) (v : VrVoice) (a : Frame) :
    Sound (fun _ => True) ArenaStop (vrVoiceSample c m v a).voices (vrVoiceSample c m v a).stop :=
  vrVoiceSample_sound a trivial (fun _ _ _ hc => arenaStop_of_vrContribution hc) fun _ _ _ _ => trivial

theorem vrVoiceSample_inRange (c : Config) (m : Memory) (a : Frame) (h : v.InRange) :
    Sound VrVoice.InRange ArenaStop (vrVoiceSample c m v a).voices (vrVoiceSample c m v a).stop := by
  refine vrVoiceSample_sound a h (fun _ _ _ hc => arenaStop_of_vrContribution hc) fun w lr he hc => ?_
  obtain ⟨⟨hvolume, hpanning, hmix, hvol, hpan⟩, hnext, hlive, hold, hplay, holdPlay⟩ := h
  obtain ⟨hwlive, hwenabled, -, -, -, hwmix⟩ := vrContribution_keeps hc
  obtain ⟨⟨hwvolume, hwpanning, hwvol, hwpan⟩, hwbase, hwlength, hwstart, hwlen⟩ := vrContribution_settings hc
  have hwold : w.old.InRange ∧ (w.oldActive = true → w.old.Playable) := by
    rcases vrContribution_old hc with ⟨heq, hactive⟩ | ⟨hactive, heq, hgo⟩
    · rw [heq]
      exact ⟨hold, fun hon => holdPlay (hactive hon)⟩
    · rw [heq]
      exact ⟨resolve_advance_inRange c hold (holdPlay hactive), fun hon => resolve_playable (hgo hon)⟩
  rw [vrHold_keeps]
  refine ⟨⟨?_, ?_, ?_, ?_, ?_⟩, ?_, ?_, hwold.1, fun henabled => ?_, hwold.2⟩
  · exact hwvolume.trans_le hvolume
  · exact hwpanning.trans_le hpanning
  · exact hwmix.trans_le ((Nat.sub_le _ _).trans hmix)
  · exact hwvol.trans hvol
  · exact hwpan.trans hpan
  · show w.nextBase < _ ∧ w.nextLength < _ ∧ w.nextLoopStart < _ ∧ w.nextLoopLength < _
    rw [hwbase, hwlength, hwstart, hwlen]
    exact hnext
  · show (resolve (advance c w.live)).1.InRange
    rw [hwlive]
    exact resolve_advance_inRange c hlive (hplay he)
  · refine resolve_playable ?_
    have hon : (w.enabled && !(resolve (advance c w.live)).2) = true := henabled
    simp only [Bool.and_eq_true, Bool.not_eq_true'] at hon
    exact hon.2

/-- Inside the arena a sample reads nothing outside it, and leaves the streams that are still mixed inside. -/
theorem vrVoiceSample_inside (c : Config) {m : Memory} (hwf : m.wf = true) (a : Frame) (h : v.InRange ∧ v.Inside m.length) :
    Sound (fun w : VrVoice => w.InRange ∧ w.Inside m.length) (fun _ => False) (vrVoiceSample c m v a).voices
      (vrVoiceSample c m v a).stop := by
  have hrange := vrVoiceSample_inRange c m a h.1
  have hsound : Sound (VrVoice.Inside m.length) (fun _ => False) (vrVoiceSample c m v a).voices (vrVoiceSample c m v a).stop := by
    obtain ⟨⟨-, -, hlive, hold, -, -⟩, hinside, holdInside⟩ := h
    refine vrVoiceSample_sound a ⟨hinside, holdInside⟩ (fun w e he hc => ?_) fun w lr he hc => ?_
    · obtain ⟨x, hx⟩ := streamValue_of_inside c hwf (hinside he)
      have hy : ∃ y, oldValue c m v = .ok y := by
        unfold oldValue
        split
        next hon => exact streamValue_of_inside c hwf (holdInside hon)
        · exact ⟨_, rfl⟩
      obtain ⟨y, hy⟩ := hy
      rcases Nat.eq_zero_or_pos v.mixCounter with hmix | hmix
      · cases (vrContribution_of_no_crossfade hmix hx).symm.trans hc
      · cases (vrContribution_of_crossfade hmix hx hy).symm.trans hc
    · obtain ⟨hwlive, -, -, -, -, -⟩ := vrContribution_keeps hc
      rw [vrHold_keeps]
      refine ⟨fun henabled => ?_, fun hactive => ?_⟩
      · have hon : (w.enabled && !(resolve (advance c w.live)).2) = true := henabled
        simp only [Bool.and_eq_true, Bool.not_eq_true', hwlive] at hon
        show (resolve (advance c w.live)).1.Inside m.length
        rw [hwlive]
        exact resolve_advance_inside c hlive (hinside he) hon.2
      · show w.old.Inside m.length
        have hon : w.oldActive = true := hactive
        rcases vrContribution_old hc with ⟨heq, hkept⟩ | ⟨hwas, heq, hgo⟩
        · rw [heq]
          exact holdInside (hkept hon)
        · rw [heq]
          exact resolve_advance_inside c hold (holdInside hwas) (hgo hon)
  cases hs : (vrVoiceSample c m v a).stop with
  | none =>
    rw [hs] at hrange hsound
    exact ⟨hrange, hsound⟩
  | some e =>
    rw [hs] at hsound
    exact hsound

end

/-! ### The segment and the obligations -/

section
variable {s t u : State}

theorem mixSegment_vrInRange (i0 seg : Nat) (hb : s.cfg.backend = .vr) (h : ∀ v ∈ s.vr, v.InRange) :
    Sound (fun u : State => ∀ v ∈ u.vr, v.InRange) ArenaStop (mixSegment i0 seg s).1 (mixSegment i0 seg s).2 :=
  mixSegment_sound_vr i0 seg hb (fun _ a hv => vrVoiceSample_inRange s.cfg s.arena a hv) h

theorem vrInRange_of_segment (h : ∀ v ∈ s.vr, v.InRange) (hu : Segment s u) : ∀ v ∈ u.vr, v.InRange := by
  cases hu with
  | nothing => exact h
  | @mixed u hgo hmix =>
    show ∀ v ∈ u.vr, v.InRange
    cases hb : s.cfg.backend with
    | vr =>
      have hsound := mixSegment_vrInRange s.rc.rProduced s.segLength hb h
      rw [hmix] at hsound
      exact hsound
    | fp =>
      have hvr := mixSegment_vr_of_fp (s := s) s.rc.rProduced s.segLength hb
      rw [hmix] at hvr
      rw [hvr]
      exact h

theorem afterSegment_vr (s : State) : (afterSegment s).vr = s.vr := by
  rcases afterSegment_cases s with ⟨-, heq⟩ | ⟨-, -, heq⟩ | ⟨-, -, heq⟩ <;> rw [heq] <;> rfl

theorem vrInRange_of_runs (h : ∀ v ∈ s.vr, v.InRange) (hrun : Runs s t) : t.VrInRange := by
  cases hrun with
  | ended hu => exact fun _ => (afterSegment_vr _).symm ▸ vrInRange_of_segment h hu
  | faulted => exact fun hno => absurd hno (by simp)

theorem modVr_inRange {v : Nat} {f : VrVoice → VrVoice} (hf : VrWriteKeeps f) (h : ∀ x ∈ s.vr, x.InRange) :
    ∀ x ∈ (s.modVr v f).vr, x.InRange := by
  intro x hx
  obtain ⟨i, hi⟩ := List.mem_iff_getElem?.mp hx
  rw [State.modVr, List.getElem?_modify] at hi
  obtain ⟨y, hy, rfl⟩ := Option.map_eq_some_iff.mp hi
  have hin := h y (List.mem_iff_getElem?.mpr ⟨i, hy⟩)
  split
  · exact hf y hin
  · exact hin

theorem vrInRange_of_does {i : Instr} (hinv : s.Inv) (h : s.VrInRange) (hdoes : Does s i t) : t.VrInRange := by
  cases hdoes with
  | refused | fpWrote | drained | setsink | stored | settempo | setspeed | setloop | setled | reported => exact h
  | vrWrote hi hfault hkeeps =>
    obtain ⟨-, -, -, -, -, -, ⟨-, hspt, -⟩, -⟩ := hinv
    exact fun _ => modVr_inRange (hkeeps hspt) (h hfault)
  | reset => exact fun _ => vrBank_inRange s.cfg
  | init => exact fun _ => vrBank_inRange s.cfg
  | rendered d hfault hpending hstate hchunk hrun => exact vrInRange_of_runs (s := s.startPass d.toNat) (h hfault) hrun
  | @ticked t d e hd hfault hpending hrun => exact vrInRange_of_runs ((tickReturn_vr s e).symm ▸ h hfault) hrun
  | foundNaN => exact fun hno => absurd hno (by simp)

/-- Settles O23: no command but a write, RESET, INIT and a mixing changes a voice, and each keeps its ranges. -/
theorem stepKeepsVariableRateVoices : Obligations.StepKeepsVariableRateVoices := by
  intro s t hinv h hstep
  rcases step_next_cases hstep with rfl | ⟨c, rest, -, ⟨e, -, rfl⟩ | ⟨i, -, hdoes⟩⟩
  · exact h
  · exact h
  · exact vrInRange_of_does (s := s.takeCommand c rest) hinv h hdoes

/-- Settles O52: inside its extents no stream that is mixed reads outside the arena. -/
theorem vrRegionsInsideNeverFault : Obligations.VrRegionsInsideNeverFault := by
  rintro s i0 seg hb ⟨-, harena, -⟩ hfault hrange ⟨hfp, hinside⟩
  have hsound : Sound (fun u : State => ∀ v ∈ u.vr, v.InRange ∧ v.Inside s.arena.length) (fun _ => False) (mixSegment i0 seg s).1
      (mixSegment i0 seg s).2 :=
    mixSegment_sound_vr i0 seg hb (fun _ a hv => vrVoiceSample_inside s.cfg harena.1 a hv) fun v hv => ⟨hrange hfault v hv, hinside v hv⟩
  have hstop : (mixSegment i0 seg s).2 = none := by
    cases he : (mixSegment i0 seg s).2 with
    | none => rfl
    | some e =>
      rw [he] at hsound
      exact hsound.elim
  rw [hstop] at hsound
  obtain ⟨-, -, -, harena', -⟩ := mixSegment_frame i0 seg s
  refine ⟨hstop, ?_, ?_⟩
  · rw [State.arenaLen, harena', mixSegment_fp_of_vr i0 seg hb]
    exact hfp
  · rw [State.arenaLen, harena']
    exact fun v hv => (hsound v hv).2

end

end Sys2Proof.Machine

/-! No command stops the model (R617, log 9), a playing stream below 0 (log 16), and the obligations O24 and O26. -/

namespace Sys2Proof.Machine

/-- The block goes on to a next state. -/
abbrev GoesOn (a : Answer) : Prop := ∃ t, a = .next t

section
variable {s : State}

theorem goesOn_guarded {checks : List (Bool × Status)} {act : Answer} (hact : (∀ c ∈ checks, c.1 = false) → GoesOn act) :
    GoesOn (guarded checks s act) := by
  rcases guarded_cases (s := s) checks act with ⟨st, -, h⟩ | ⟨hpass, h⟩
  · exact ⟨_, h⟩
  · rw [h]
    exact hact hpass

theorem goesOn_fpWrite {α : Type} (v : BitVec 8) (operand : Option α) (f : α → FpVoice → FpVoice) (s : State) :
    GoesOn (fpWrite v operand f s) := by
  rcases fpWrite_cases (s := s) v operand f with ⟨st, -, h⟩ | ⟨-, -, -, x, -, h⟩ <;> exact ⟨_, h⟩

theorem goesOn_vrWrite {α : Type} (v : BitVec 8) (operand : Option α) (f : α → VrVoice → VrVoice) (s : State) :
    GoesOn (vrWrite v operand f s) := by
  rcases vrWrite_cases (s := s) v operand f with ⟨st, -, h⟩ | ⟨-, -, -, x, -, h⟩ <;> exact ⟨_, h⟩

/-- With the fixed-period voices in range a segment stops at an arena read at most: three fetches are enough (R617). -/
theorem arenaStop_of_mixSegment {i0 seg : Nat} {u : State} {e : MixStop} (hpass : s.InPass) (h : ∀ v ∈ s.fp, v.InRange)
    (hmix : mixSegment i0 seg s = (u, some e)) : ArenaStop e := by
  cases hb : s.cfg.backend with
  | fp =>
    have hsound := mixSegment_fpInRange i0 seg hb hpass.valid hpass.arena h
    rw [hmix] at hsound
    exact hsound
  | vr =>
    have hsound := mixSegment_sound_vr (P := fun _ => True) i0 seg hb (fun v a _ => vrVoiceSample_arenaStop s.cfg s.arena v a)
      fun _ _ => trivial
    rw [hmix] at hsound
    exact hsound

theorem goesOn_run (hpass : s.InPass) (h : ∀ v ∈ s.fp, v.InRange) : GoesOn (run s) := by
  rcases run_cases s with ⟨-, hrun⟩ | ⟨-, -, ⟨u, -, hrun⟩ | ⟨u, e, hmix, hrun⟩⟩
  · exact ⟨_, hrun⟩
  · exact ⟨_, hrun⟩
  · obtain ⟨a, rfl⟩ := arenaStop_of_mixSegment hpass h hmix
    exact ⟨_, hrun⟩

theorem goesOn_execRender (d : Word) (hinv : s.Inv) (h : s.FpInRange) : GoesOn (execRender d s) :=
  goesOn_guarded fun hpass => by
    simp only [renderChecks, List.mem_cons, List.not_mem_nil, or_false, forall_eq_or_imp, forall_eq, beq_eq_false_iff_ne,
      decide_eq_false_iff_not, not_lt] at hpass
    obtain ⟨hfault, hpending, hstate, hchunk, -⟩ := hpass
    exact goesOn_run (inPass_startPass hinv hfault hpending hstate hchunk d.isLt) (h hfault)

theorem goesOn_execTickdone (d : Word) (hinv : s.Inv) (h : s.FpInRange) : GoesOn (execTickdone d s) :=
  goesOn_guarded fun hpass => by
    simp only [List.mem_cons, List.not_mem_nil, or_false, forall_eq_or_imp, forall_eq, Bool.not_eq_false'] at hpass
    obtain ⟨hfault, hpending, -⟩ := hpass
    split
    next e _ => exact goesOn_run (inPass_tickReturn e hinv hpending) ((tickReturn_fp s e).symm ▸ h hfault)
    · exact ⟨_, rfl⟩

/-- Settles O24: only Run could stop, and within it only the bound on the fetches. -/
theorem noCommandStops : Obligations.NoCommandStops := by
  intro s hinv h i
  unfold exec
  cases i with
  | render d => exact goesOn_execRender d hinv h
  | tickdone d => exact goesOn_execTickdone d hinv h
  | reset d => exact ⟨_, rfl⟩
  | init d | setsink d | store d | status d => exact goesOn_guarded fun _ => ⟨_, rfl⟩
  | drain d | settempo d | setspeed d | setloop d | setled d | read d =>
    refine goesOn_guarded fun _ => ?_
    split <;> exact ⟨_, rfl⟩
  | fpEnable v d | fpPeriod v d | fpVolume v d | fpPointer v d | fpLength v d | fpLoopPointer v d | fpLoopLength v d
  | fpMute v d | fpPanning v d => exact goesOn_fpWrite ..
  | vrEnable v d | vrSpeed v d | vrDirection v d | vrFraction v d | vrVolume v d | vrPanning v d | vrPointer v d | vrLength v d
  | vrLoopStart v d | vrLoopLength v d | vrLoopMode v d | vrMute v d | vrNextBase v d | vrNextLength v d | vrNextLoopStart v d
  | vrNextLoopLength v d | vrNextLoopMode v d | vrTrigger v d => exact goesOn_vrWrite ..

end

/-! ### A playing stream below 0 (log 16) -/

/-- A silent voice whose stream stands at −5 and moves ahead towards its loop. -/
def belowZero : VrVoice :=
  { VrVoice.initial with live := { Stream.initial with loopLength := 10, loopMode := .forward, pointer := -5 } }

/-- A one-voice instance with that voice, about to be told to enable it. -/
def aboutToPlay : State :=
  { State.powerOn { Config.sample with backend := .vr, nv := 1 } with
    vr := [belowZero]
    port := { inbox := [⟨0x20000000#32, 1#32, [], 0⟩], src := [], pos := 0, results := [], pcm := [] } }

/-- Refutes O26: Resolve leaves a looped stream alone that moves towards its loop from below, so the enable plays it at −5. -/
theorem not_playingPointerStaysNonNegative : ¬ Obligations.PlayingPointerStaysNonNegative := by
  intro h
  have hinv : aboutToPlay.Inv := by decide
  have hrange : aboutToPlay.VrInRange := fun _ v hv => by
    obtain rfl := List.mem_singleton.mp hv
    exact ⟨by decide, by decide, by decide, by decide, fun hno => absurd hno (by decide), fun hno => absurd hno (by decide)⟩
  have hstep : step aboutToPlay =
      .next { aboutToPlay with
        vr := [{ belowZero with enabled := true }]
        port := { inbox := [], src := [], pos := 0, results := [⟨.ok, 0#32⟩], pcm := [] } } := by rfl
  have hnonneg := h aboutToPlay _ hinv hrange (by decide) hstep { belowZero with enabled := true } (List.mem_singleton.mpr rfl) rfl
  exact absurd hnonneg (by decide)

end Sys2Proof.Machine

/-! The results of RENDER, TICK_DONE and DRAIN, and of a fault in them (R451, R455, R456, R501, R605), with the obligations O34, O35, O36 and
O41. -/

namespace Sys2Proof.Machine

/-! ### A segment by the registers it reads -/

section
variable {s u : State} {i0 seg : Nat}

/-- A segment changes the accumulator, the voices and the filter alone. -/
theorem mixSegment_keeps (i0 seg : Nat) (s : State) :
    (mixSegment i0 seg s).1 =
      { s with
        acc := (mixSegment i0 seg s).1.acc
        fp := (mixSegment i0 seg s).1.fp
        vr := (mixSegment i0 seg s).1.vr
        flt := (mixSegment i0 seg s).1.flt } := by
  cases hb : s.cfg.backend with
  | fp =>
    rw [mixSegment_of_fp hb]
    cases hs : (mixVoices (fpVoiceSample s.cfg s.arena) s.fp (framesAt s.acc i0 seg)).stop with
    | none => rw [mixSegmentFp_of_go hs]
    | some e => rw [mixSegmentFp_of_stop hs]
  | vr => rw [mixSegment_of_vr hb, mixSegmentVr]

/-- A segment does not read the render context, the clock or the drain cursor. -/
theorem mixSegment_update (i0 seg : Nat) (s : State) (isSealed : Bool) (lastProduced drainPos : Nat) (rc : RenderCtx) (clk : Clock) :
    mixSegment i0 seg { s with isSealed := isSealed, lastProduced := lastProduced, drainPos := drainPos, rc := rc, clk := clk } =
      ({ (mixSegment i0 seg s).1 with
          isSealed := isSealed, lastProduced := lastProduced, drainPos := drainPos, rc := rc, clk := clk }, (mixSegment i0 seg s).2) := by
  cases hb : s.cfg.backend with
  | fp =>
    rw [mixSegment_of_fp hb, mixSegment_of_fp (by exact hb)]
    cases hs : (mixVoices (fpVoiceSample s.cfg s.arena) s.fp (framesAt s.acc i0 seg)).stop with
    | none => rw [mixSegmentFp_of_go hs, mixSegmentFp_of_go (by exact hs)]
    | some e => rw [mixSegmentFp_of_stop hs, mixSegmentFp_of_stop (by exact hs)]
  | vr =>
    rw [mixSegment_of_vr hb, mixSegment_of_vr (by exact hb)]
    rfl

theorem putFrames_nil (acc : List Frame) (i : Nat) : putFrames acc i 0 [] = acc := by
  simp [putFrames]

/-- A segment of no frames changes nothing. -/
theorem mixSegment_zero (i0 : Nat) (s : State) : mixSegment i0 0 s = (s, none) := by
  have hframes : framesAt s.acc i0 0 = [] := List.take_zero
  cases hb : s.cfg.backend with
  | fp =>
    have hmix := mixVoices_nil_frames (fpVoiceSample s.cfg s.arena) s.fp
    rw [mixSegment_of_fp hb, mixSegmentFp_of_go (by rw [hframes, hmix]), hframes, hmix, filterFrames, putFrames_nil]
  | vr => rw [mixSegment_of_vr hb, mixSegmentVr, hframes, mixVoices_nil_frames, putFrames_nil]

/-- With every region inside the arena no segment stops (R113). -/
theorem mixSegment_noStop (hinv : s.Inv) (hfault : s.flr.fault = false) (hfp : s.FpInRange) (hvr : s.VrInRange) (hin : s.RegionsInside) :
    (mixSegment i0 seg s).2 = none := by
  cases hb : s.cfg.backend with
  | fp => exact (fpRegionsInsideNeverFault s i0 seg hb hinv hfault hfp hin).1
  | vr => exact (vrRegionsInsideNeverFault s i0 seg hb hinv hfault hvr hin).1

/-! ### Run by its segment -/

theorem countSegment_zero (hlast : s.lastProduced = s.rc.rProduced) : s.countSegment 0 = s := by
  show ({ s with lastProduced := s.rc.rProduced + 0 } : State) = s
  rw [Nat.add_zero, ← hlast]

/-- Run over a segment that does not stop, also when there is nothing to mix. -/
theorem run_of_mixed (hlast : s.lastProduced = s.rc.rProduced) (h : mixSegment s.rc.rProduced s.segLength s = (u, none)) :
    run s = .next (afterSegment (u.countSegment s.segLength)) := by
  unfold run
  split
  · simp only [h]
  next hno =>
    have hzero : s.segLength = 0 := by
      unfold State.segLength
      omega
    rw [hzero, mixSegment_zero] at h
    cases h
    rw [hzero, countSegment_zero hlast]

/-- Run over a segment that stops: such a segment is not empty. -/
theorem run_of_stop {e : MixStop} (h : mixSegment s.rc.rProduced s.segLength s = (u, some e)) : run s = stopMixing e u := by
  unfold run
  split
  · simp only [h]
  next hno =>
    have hzero : s.segLength = 0 := by
      unfold State.segLength
      omega
    rw [hzero, mixSegment_zero] at h
    cases h

theorem afterSegment_of_target (h : ¬ s.rc.rProduced < s.rc.rTarget) : afterSegment s = endPass s := by
  rw [afterSegment, if_neg h]

theorem afterSegment_of_playing (h : s.rc.rProduced < s.rc.rTarget) (hstate : s.clk.state = .playing) : afterSegment s = tickEntry s := by
  rw [afterSegment, if_pos h, atBoundary, if_neg (by simp [hstate])]

theorem afterSegment_of_completed (h : s.rc.rProduced < s.rc.rTarget) (hstate : s.clk.state = .completed) :
    afterSegment s = endPass { s with rc := { s.rc with rTarget := s.rc.rProduced } } := by
  rw [afterSegment, if_pos h, atBoundary, if_pos hstate]

/-! ### RENDER -/

theorem exec_render_passes {d : Word} (hfault : s.flr.fault = false) (hpending : s.clk.tickPending = false)
    (hstate : s.clk.state ≠ .idle) (hchunk : d.toNat ≤ s.cfg.chunkN) (hdrained : s.lastProduced - s.drainPos = 0) :
    exec (.render d) s = run (s.startPass d.toNat) := by
  have hn : opU32 d ≤ s.cfg.chunkN := hchunk
  exact guarded_passes (by simp [renderChecks, State.undrained, hfault, hpending, hstate, hn, hdrained])

theorem inv_clearAcc (h : s.Inv) : ({ s with acc := s.acc.map fun _ => Frame.zero } : State).Inv := by
  obtain ⟨hvalid, harena, ⟨hacc, hbanks⟩, hrest⟩ := h
  exact ⟨hvalid, harena, ⟨by simpa using hacc, hbanks⟩, hrest⟩

theorem exists_mixed (hstop : (mixSegment i0 seg s).2 = none) :
    ∃ acc fp vr flt, mixSegment i0 seg s = ({ s with acc := acc, fp := fp, vr := vr, flt := flt }, none) :=
  ⟨_, _, _, _, Prod.ext (mixSegment_keeps i0 seg s) hstop⟩

/-- Settles O34: Run from a cleared accumulator, by whether frames are left to produce and by the song's state. -/
theorem renderResult : Obligations.RenderResult := by
  intro s d hinv hfp hvr hin hfault hpending hstate hchunk hdrained
  dsimp only
  have hcomm := Nat.min_comm d.toNat s.clk.samplesRemainingInTick
  generalize hk : min d.toNat s.clk.samplesRemainingInTick = k at hcomm ⊢
  have hle : k ≤ d.toNat := by omega
  obtain ⟨acc, fp, vr, flt, hmix⟩ := exists_mixed
    (mixSegment_noStop (i0 := 0) (seg := k) (inv_clearAcc hinv) hfault hfp hvr hin)
  have hpass : mixSegment 0 k (s.startPass d.toNat) =
      ({ s.startPass d.toNat with acc := acc, fp := fp, vr := vr, flt := flt }, none) := by
    have hupdate := mixSegment_update 0 k { s with acc := s.acc.map fun _ => Frame.zero } true 0 0 ⟨true, d.toNat, d.toNat, 0⟩ s.clk
    rw [hmix] at hupdate
    exact hupdate
  have hseg : (s.startPass d.toNat).segLength = k := hcomm.symm
  refine ⟨_, hmix, ?_⟩
  rw [exec_render_passes hfault hpending hstate hchunk hdrained, run_of_mixed rfl (hseg.symm ▸ hpass), hseg]
  have hcount : ({ s.startPass d.toNat with acc := acc, fp := fp, vr := vr, flt := flt } : State).countSegment k =
      { s with
        isSealed := true, acc := acc, fp := fp, vr := vr, flt := flt, lastProduced := k, drainPos := 0
        rc := ⟨true, d.toNat, d.toNat, k⟩
        clk := { s.clk with samplesRemainingInTick := s.clk.samplesRemainingInTick - k, tickPending := false } } := by
    rw [State.countSegment, show (s.startPass d.toNat).rc.rProduced + k = k from Nat.zero_add k, ← hpending]
    rfl
  obtain ⟨tick, htick⟩ : ∃ tick, (decide (k < d.toNat) && s.clk.state == .playing) = tick := ⟨_, rfl⟩
  rw [hcount, htick]
  by_cases hmore : k < d.toNat
  · rw [decide_eq_true hmore, Bool.true_and] at htick
    cases tick with
    | true =>
      rw [afterSegment_of_playing (by exact hmore) (by exact beq_iff_eq.mp htick)]
      rfl
    | false =>
      have hcompleted : s.clk.state = .completed := by
        cases hs : s.clk.state with
        | idle => exact absurd hs hstate
        | playing => rw [hs] at htick; cases htick
        | completed => rfl
      rw [afterSegment_of_completed (by exact hmore) (by exact hcompleted)]
      rfl
  · rw [decide_eq_false hmore, Bool.false_and] at htick
    subst htick
    have hall : d.toNat = k := by omega
    rw [afterSegment_of_target (by exact hmore), hall]
    rfl

/-! ### TICK_DONE -/

theorem opBool_of_bit {d : Word} (h : d = 0#32 ∨ d = 1#32) : opBool d = some (decide (d = 1#32)) := by
  rcases h with rfl | rfl <;> rfl

theorem exec_tickdone_passes {d : Word} (hfault : s.flr.fault = false) (hpending : s.clk.tickPending = true)
    (hd : d = 0#32 ∨ d = 1#32) : exec (.tickdone d) s = run (tickReturn (decide (d = 1#32)) s) := by
  show execTickdone d s = _
  rw [execTickdone, opBool_of_bit hd, guarded_passes (by simp [hfault, hpending])]

/-- The registers after a tick return, whether the song ended or not (R456). -/
theorem tickReturn_eq (e : Bool) (s : State) :
    let spt := s.clk.samplesPerTick
    let songEnd := e && !s.clk.loopSong
    let target := if songEnd then min s.rc.rTarget (s.rc.rProduced + spt) else s.rc.rTarget
    tickReturn e s =
      { s with
        rc := { s.rc with rTarget := target }
        clk := { s.clk with
          tickPending := false
          samplesRemainingInTick := spt
          state := if songEnd then .completed else s.clk.state
          remainingAfterCompletion := if songEnd then s.rc.rRequested - target else s.clk.remainingAfterCompletion } } := by
  dsimp only
  cases h : e && !s.clk.loopSong with
  | true => exact tickReturn_completes s e h
  | false => exact tickReturn_keeps s e h

theorem fault_of_pending (hinv : s.Inv) (hpending : s.clk.tickPending = true) : s.flr.fault = false := by
  obtain ⟨-, -, -, -, ⟨-, htick⟩, -⟩ := hinv
  obtain ⟨-, -, -, hfault, -⟩ := htick hpending
  exact hfault

/-- Settles O35: Run from the registers a tick return leaves, by whether frames are left to produce. -/
theorem tickDoneResult : Obligations.TickDoneResult := by
  intro s d hinv hfp hvr hin hpending hd
  have hreturn := tickReturn_eq (decide (d = 1#32)) s
  have hfault := fault_of_pending hinv hpending
  obtain ⟨-, -, -, ⟨-, hlast, -⟩, ⟨hactive, hsuspended⟩, -⟩ := id hinv
  obtain ⟨hplaying, -, hmore, -⟩ := hsuspended hpending
  dsimp only at hreturn ⊢
  generalize hend : (decide (d = 1#32) && !s.clk.loopSong) = songEnd at hreturn ⊢
  generalize htarget : (if songEnd = true then min s.rc.rTarget (s.rc.rProduced + s.clk.samplesPerTick) else s.rc.rTarget) = target
    at hreturn ⊢
  generalize hk : min s.clk.samplesPerTick (target - s.rc.rProduced) = k
  obtain ⟨acc, fp, vr, flt, hmix⟩ := exists_mixed (mixSegment_noStop (i0 := s.rc.rProduced) (seg := k) hinv hfault hfp hvr hin)
  have hsegment : mixSegment s.rc.rProduced k (tickReturn (decide (d = 1#32)) s) =
      ({ tickReturn (decide (d = 1#32)) s with acc := acc, fp := fp, vr := vr, flt := flt }, none) := by
    have hupdate := mixSegment_update s.rc.rProduced k s s.isSealed s.lastProduced s.drainPos
      (tickReturn (decide (d = 1#32)) s).rc (tickReturn (decide (d = 1#32)) s).clk
    rw [hmix] at hupdate
    rw [hreturn] at hupdate ⊢
    exact hupdate
  have hseg : (tickReturn (decide (d = 1#32)) s).segLength = k := by
    rw [hreturn]
    exact hk
  have hproduced : (tickReturn (decide (d = 1#32)) s).rc.rProduced = s.rc.rProduced := by rw [hreturn]
  have hlastKept : (tickReturn (decide (d = 1#32)) s).lastProduced = (tickReturn (decide (d = 1#32)) s).rc.rProduced := by
    rw [hreturn]
    exact hlast
  have hcount : ({ tickReturn (decide (d = 1#32)) s with acc := acc, fp := fp, vr := vr, flt := flt } : State).countSegment k =
      { s with
        acc := acc, fp := fp, vr := vr, flt := flt, lastProduced := s.rc.rProduced + k
        rc := { s.rc with rActive := true, rTarget := target, rProduced := s.rc.rProduced + k }
        clk := { s.clk with
          tickPending := false
          samplesRemainingInTick := s.clk.samplesPerTick - k
          state := if songEnd = true then .completed else s.clk.state
          remainingAfterCompletion := if songEnd = true then s.rc.rRequested - target else s.clk.remainingAfterCompletion } } := by
    rw [State.countSegment, hreturn, ← hpending, ← hactive]
  refine ⟨_, hmix, ?_⟩
  rw [exec_tickdone_passes hfault hpending hd, run_of_mixed hlastKept (by rw [hproduced, hseg]; exact hsegment), hseg, hcount]
  by_cases hleft : s.rc.rProduced + k < target
  · have hgoes : songEnd = false := by
      cases songEnd with
      | false => rfl
      | true =>
        rw [if_pos rfl] at htarget
        omega
    subst hgoes
    rw [decide_eq_true hleft, afterSegment_of_playing (by exact hleft) (by exact hplaying)]
    rfl
  · rw [decide_eq_false hleft, afterSegment_of_target (by exact hleft)]
    rfl

/-! ### DRAIN -/

theorem firstNaN_of_none {fs : List Frame} (h : ∀ f ∈ fs, frameNaN f = false) (i : Nat) : firstNaN i fs = none := by
  induction fs generalizing i with
  | nil => rfl
  | cons f fs ih =>
    obtain ⟨hhead, htail⟩ := List.forall_mem_cons.mp h
    rw [firstNaN, if_neg (by simp [hhead])]
    exact ih htail (i + 1)

/-- The first frame that holds a NaN is found, counted from where the frames start. -/
theorem firstNaN_of_first {fs : List Frame} {j : Nat} {f : Frame} (hj : fs[j]? = some f) (hf : frameNaN f = true)
    (hbefore : ∀ j' < j, ∀ g, fs[j']? = some g → frameNaN g = false) (i : Nat) : firstNaN i fs = some (i + j) := by
  induction fs generalizing i j with
  | nil => cases hj
  | cons x xs ih =>
    cases j with
    | zero =>
      cases hj
      rw [firstNaN, if_pos hf, Nat.add_zero]
    | succ j =>
      have hx : frameNaN x = false := hbefore 0 (Nat.succ_pos j) x rfl
      rw [firstNaN, if_neg (by simp [hx]), ih hj (fun j' hlt g hg => hbefore (j' + 1) (Nat.succ_lt_succ hlt) g hg) (i + 1)]
      congr 1
      omega

theorem exec_drain_passes {d : Word} (hfault : s.flr.fault = false) (hpending : s.clk.tickPending = false)
    (hrange : d.toNat ≤ s.lastProduced - s.drainPos) :
    exec (.drain d) s =
      match firstNaN s.drainPos (framesAt s.acc s.drainPos (s.drainCount d.toNat)) with
      | some i => .next (raiseFault .numeric i s)
      | none => .next ((s.drainFrames d.toNat).reply .ok (value (s.drainCount d.toNat))) := by
  have hn : opU32 d ≤ s.undrained := hrange
  exact guarded_passes (by simp [hfault, hpending, hn])

theorem frameNaN_eq_false_iff (f : Frame) : frameNaN f = false ↔ NUM.isNaN f.l = false ∧ NUM.isNaN f.r = false := by
  rw [frameNaN, Bool.or_eq_false_iff]

/-- The accumulator after a DRAIN of `k` frames, entry by entry. -/
theorem putFrames_zeros (acc : List Frame) (i0 k i : Nat) :
    (putFrames acc i0 k ((framesAt acc i0 k).map fun _ => Frame.zero))[i]? =
      if i0 ≤ i ∧ i < i0 + k then (acc[i]?).map fun _ => Frame.zero else acc[i]? := by
  obtain ⟨hlength, hin, hout⟩ := putFrames_reads acc i0 k ((framesAt acc i0 k).map fun _ => Frame.zero) (by simp)
  split
  next hrange =>
    cases hacc : acc[i]? with
    | none => exact List.getElem?_eq_none (by rw [hlength]; exact List.getElem?_eq_none_iff.mp hacc)
    | some f =>
      have hframe : (framesAt acc i0 k)[i - i0]? = some f := by
        rw [framesAt, List.getElem?_take_of_lt (by omega), List.getElem?_drop, Nat.add_sub_cancel' hrange.1, hacc]
      have hzero := hin (i - i0) Frame.zero (by rw [List.getElem?_map, hframe]; rfl)
      rwa [Nat.add_sub_cancel' hrange.1] at hzero
  next hrange => exact hout i (by omega)

/-- Settles O36: no NaN is found, so the frames leave and their entries are zeroed. -/
theorem drainResult : Obligations.DrainResult := by
  intro s d
  dsimp only
  intro hfault hpending hrange hclean
  have hnone : firstNaN s.drainPos (framesAt s.acc s.drainPos (s.drainCount d.toNat)) = none :=
    firstNaN_of_none (fun f hf => (frameNaN_eq_false_iff f).mpr (hclean f hf)) s.drainPos
  refine ⟨(s.drainFrames d.toNat).reply .ok (value (s.drainCount d.toNat)), ?_, rfl, fun i => ?_⟩
  · rw [exec_drain_passes hfault hpending hrange, hnone]
  · exact putFrames_zeros s.acc s.drainPos (s.drainCount d.toNat) i

/-! ### Fault entry (R605) -/

/-- What an arena fault within a segment leaves of the registers the segment started from. -/
theorem raiseFault_of_mixSegment {a : Nat} (h : mixSegment i0 seg s = (u, some (.arenaRange a))) :
    let t := raiseFault .arenaRange a u.freeAcc
    t.flr = ⟨true, .arenaRange, min a 0xFFFFFFFF⟩ ∧ t.clk = { s.clk with tickPending := false } ∧
      t.rc = { s.rc with rActive := false } ∧ t.lastProduced = s.lastProduced ∧
      t.port = { s.port with results := s.port.results ++ [⟨.faulted, 0#32⟩] } ∧ t.arena = s.arena ∧ t.snk = s.snk ∧
      t.isSealed = s.isSealed ∧ t.acc.length = s.acc.length := by
  obtain ⟨-, hlast, -, harena, hsealed, hclk, hsnk, hrc, -, hport, -⟩ := mixSegment_frame i0 seg s
  obtain ⟨hacc, -⟩ := mixSegment_sizes i0 seg s
  rw [h] at hlast harena hsealed hclk hsnk hrc hport hacc
  dsimp only at hlast harena hsealed hclk hsnk hrc hport hacc
  refine ⟨rfl, ?_, ?_, hlast, ?_, harena, hsnk, hsealed, ?_⟩
  · rw [← hclk]
    rfl
  · rw [← hrc]
    rfl
  · rw [← hport]
    rfl
  · rw [← hacc]
    exact List.length_mapIdx

/-- Settles O41: a stop in the segment of RENDER and of TICK_DONE, and a NaN among the frames of DRAIN. -/
theorem faultEntry : Obligations.FaultEntry := by
  refine ⟨fun s m d a hfault hpending hstate hchunk hdrained hmix => ?render, fun s m d a hinv hpending hd => ?tickdone,
    fun s d j f hfault hpending hrange hj hf hnan hbefore => ?drain⟩
  case render =>
    obtain ⟨hflr, hclk, hrc, hlast, hport, harena, hsnk, hsealed, hacc⟩ := raiseFault_of_mixSegment hmix
    refine ⟨_, (exec_render_passes hfault hpending hstate hchunk hdrained).trans (run_of_stop (s := s.startPass d.toNat) hmix), hflr, hclk,
      hrc, hlast, hport, harena, hsnk, hsealed, ?_⟩
    rw [hacc]
    exact List.length_map _
  case tickdone =>
    have hreturn := tickReturn_eq (decide (d = 1#32)) s
    dsimp only at hreturn ⊢
    generalize htarget : (if (decide (d = 1#32) && !s.clk.loopSong) = true then min s.rc.rTarget (s.rc.rProduced + s.clk.samplesPerTick)
      else s.rc.rTarget) = target at hreturn ⊢
    intro hmix
    have hupdate := mixSegment_update s.rc.rProduced (min s.clk.samplesPerTick (target - s.rc.rProduced)) s s.isSealed s.lastProduced
      s.drainPos (tickReturn (decide (d = 1#32)) s).rc (tickReturn (decide (d = 1#32)) s).clk
    rw [hmix] at hupdate
    have hstop : mixSegment (tickReturn (decide (d = 1#32)) s).rc.rProduced (tickReturn (decide (d = 1#32)) s).segLength
        (tickReturn (decide (d = 1#32)) s) =
          ({ m with
              isSealed := s.isSealed, lastProduced := s.lastProduced, drainPos := s.drainPos
              rc := (tickReturn (decide (d = 1#32)) s).rc, clk := (tickReturn (decide (d = 1#32)) s).clk }, some (.arenaRange a)) := by
      rw [hreturn] at hupdate ⊢
      exact hupdate
    obtain ⟨hflr, hclk, hrc, hlast, hport, harena, hsnk, -, -⟩ := raiseFault_of_mixSegment hstop
    refine ⟨_, (exec_tickdone_passes (fault_of_pending hinv hpending) hpending hd).trans (run_of_stop hstop), hflr, ?_, ?_, ?_, ?_, ?_, ?_⟩
    · rw [hclk, hreturn]
    · rw [hrc, hreturn]
    · rw [hlast, hreturn]
    · rw [hport, hreturn]
    · rw [harena, hreturn]
    · rw [hsnk, hreturn]
  case drain =>
    have hframes (i : Nat) (hi : i < s.drainCount d.toNat) :
        (framesAt s.acc s.drainPos (s.drainCount d.toNat))[i]? = s.acc[s.drainPos + i]? := by
      rw [framesAt, List.getElem?_take_of_lt hi, List.getElem?_drop]
    have hfound : firstNaN s.drainPos (framesAt s.acc s.drainPos (s.drainCount d.toNat)) = some (s.drainPos + j) := by
      refine firstNaN_of_first (f := f) ((hframes j hj).trans hf) ?_ (fun j' hlt g hg => ?_) s.drainPos
      · rw [frameNaN, Bool.or_eq_true]
        exact hnan
      · rw [hframes j' (hlt.trans hj)] at hg
        exact (frameNaN_eq_false_iff g).mpr (hbefore j' hlt g hg)
    rw [exec_drain_passes hfault hpending hrange, hfound]
    rfl

end

end Sys2Proof.Machine

/-! The conversion to 16 bits (R504, R505), and the obligation O56. -/

namespace Sys2Proof.Machine

/-! ### Rounding half away from zero -/

section
variable {x y : NUM}

theorem roundHalfAway_of_nonneg (h : 0 ≤ NUM.val y) :
    NUM.roundHalfAway y = (2 * NUM.val y + (NUM.one149 : Int)) / (2 * (NUM.one149 : Int)) := by
  have hunits := NUM.val_of_nonneg h
  have hdiv : (((2 * NUM.units y + NUM.one149) / (2 * NUM.one149) : Nat) : Int) =
      (2 * NUM.val y + (NUM.one149 : Int)) / (2 * (NUM.one149 : Int)) := by
    rw [hunits]
    push_cast
    rfl
  rw [NUM.roundHalfAway, ← hdiv]
  split
  next hsign =>
    have hzero : NUM.units y = 0 := by
      rw [NUM.val_eq, hsign] at hunits
      simp only [NUM.signed, if_true] at hunits
      omega
    have hhalf : NUM.one149 / (2 * NUM.one149) = 0 := Nat.div_eq_of_lt (by have := NUM.one149_pos; omega)
    rw [hzero, Nat.mul_zero, Nat.zero_add, hhalf]
    rfl
  · rfl

/-- The rounding is odd: it sees the sign and the magnitude apart. -/
theorem roundHalfAway_of_opposite (hsign : NUM.signBit y = !NUM.signBit x) (hunits : NUM.units y = NUM.units x) :
    NUM.roundHalfAway y = -NUM.roundHalfAway x := by
  simp only [NUM.roundHalfAway, hsign, hunits]
  cases NUM.signBit x <;> simp

theorem roundHalfAway_neg (y : NUM) : NUM.roundHalfAway y.neg = -NUM.roundHalfAway y :=
  roundHalfAway_of_opposite (NUM.signBit_neg y) (NUM.units_neg y)

/-- What rounding a value half up means, for a value not below 0. -/
theorem halfUp_bounds {one v : Int} (hone : 0 < one) :
    2 * ((2 * v + one) / (2 * one) * one - v) ≤ one ∧ -one < 2 * ((2 * v + one) / (2 * one) * one - v) := by
  have hlo := Int.ediv_mul_le (2 * v + one) (show 2 * one ≠ 0 by omega)
  have hhi := Int.lt_ediv_add_one_mul_self (2 * v + one) (show 0 < 2 * one by omega)
  constructor <;> linarith

/-- The integer nearest to a value, and of two as near the one away from zero (R504). -/
theorem roundHalfAway_nearest (y : NUM) :
    2 * (NUM.roundHalfAway y * (NUM.one149 : Int) - NUM.val y).natAbs ≤ NUM.one149 ∧
      (2 * (NUM.roundHalfAway y * (NUM.one149 : Int) - NUM.val y).natAbs = NUM.one149 →
        (NUM.val y).natAbs < (NUM.roundHalfAway y * (NUM.one149 : Int)).natAbs) := by
  have hone := one_pos
  have hnonneg (z : NUM) (hz : 0 ≤ NUM.val z) :
      2 * (NUM.roundHalfAway z * (NUM.one149 : Int) - NUM.val z).natAbs ≤ NUM.one149 ∧
        (2 * (NUM.roundHalfAway z * (NUM.one149 : Int) - NUM.val z).natAbs = NUM.one149 →
          (NUM.val z).natAbs < (NUM.roundHalfAway z * (NUM.one149 : Int)).natAbs) := by
    obtain ⟨hlo, hhi⟩ := halfUp_bounds (v := NUM.val z) hone
    rw [roundHalfAway_of_nonneg hz]
    generalize (2 * NUM.val z + (NUM.one149 : Int)) / (2 * (NUM.one149 : Int)) * (NUM.one149 : Int) = r at hlo hhi ⊢
    generalize NUM.val z = v at hz hlo hhi ⊢
    omega
  rcases le_total 0 (NUM.val y) with h | h
  · exact hnonneg y h
  · have hneg := hnonneg y.neg (by rw [NUM.val_neg]; omega)
    rw [roundHalfAway_neg, NUM.val_neg, Int.neg_mul] at hneg
    generalize NUM.roundHalfAway y * (NUM.one149 : Int) = r at hneg ⊢
    generalize NUM.val y = v at hneg ⊢
    omega

theorem roundHalfAway_mono (h : NUM.val x ≤ NUM.val y) : NUM.roundHalfAway x ≤ NUM.roundHalfAway y := by
  have hone := one_pos
  have hnonneg (z : NUM) (hz : 0 ≤ NUM.val z) : 0 ≤ NUM.roundHalfAway z := by
    rw [roundHalfAway_of_nonneg hz]
    exact Int.ediv_nonneg (by linarith) (by linarith)
  have hmono (a b : NUM) (ha : 0 ≤ NUM.val a) (hab : NUM.val a ≤ NUM.val b) : NUM.roundHalfAway a ≤ NUM.roundHalfAway b := by
    rw [roundHalfAway_of_nonneg ha, roundHalfAway_of_nonneg (ha.trans hab)]
    exact Int.ediv_le_ediv (by linarith) (by linarith)
  rcases le_total 0 (NUM.val x) with hx | hx
  · exact hmono x y hx h
  · have hxneg : 0 ≤ NUM.val x.neg := by
      rw [NUM.val_neg]
      linarith
    rcases le_total 0 (NUM.val y) with hy | hy
    · have hbelow := hnonneg x.neg hxneg
      rw [roundHalfAway_neg] at hbelow
      linarith [hnonneg y hy]
    · have hswapped := hmono y.neg x.neg (by rw [NUM.val_neg]; linarith) (by rw [NUM.val_neg, NUM.val_neg]; linarith)
      rw [roundHalfAway_neg, roundHalfAway_neg] at hswapped
      linarith

/-- Up to `n` in magnitude a value rounds to `n` at most. -/
theorem roundHalfAway_bounds {n : Int} (hlo : -(n * (NUM.one149 : Int)) ≤ NUM.val y) (hhi : NUM.val y ≤ n * (NUM.one149 : Int)) :
    -n ≤ NUM.roundHalfAway y ∧ NUM.roundHalfAway y ≤ n := by
  have hone := one_pos
  have hle (z : NUM) (hz : 0 ≤ NUM.val z) (hzn : NUM.val z ≤ n * (NUM.one149 : Int)) :
      0 ≤ NUM.roundHalfAway z ∧ NUM.roundHalfAway z ≤ n := by
    rw [roundHalfAway_of_nonneg hz]
    refine ⟨Int.ediv_nonneg (by linarith) (by linarith), Int.lt_add_one_iff.mp (Int.ediv_lt_of_lt_mul (by linarith) ?_)⟩
    linarith
  rcases le_total 0 (NUM.val y) with h | h
  · obtain ⟨hmin, hmax⟩ := hle y h hhi
    exact ⟨by linarith, hmax⟩
  · obtain ⟨hmin, hmax⟩ := hle y.neg (by rw [NUM.val_neg]; linarith) (by rw [NUM.val_neg]; linarith)
    rw [roundHalfAway_neg] at hmin hmax
    exact ⟨by linarith, by linarith⟩

/-! ### The product with 32767.0 -/

/-- The scaled sample of a value from −1.0 to 1.0. -/
theorem scaled_bounds (hlo : -(NUM.one149 : Int) ≤ NUM.val x) (hhi : NUM.val x ≤ (NUM.one149 : Int)) :
    NUM.isFinite x = true ∧ NUM.isFinite (NUM.fmul x NUM.c32767) = true ∧
      -(32767 * (NUM.one149 : Int)) ≤ NUM.val (NUM.fmul x NUM.c32767) ∧
      NUM.val (NUM.fmul x NUM.c32767) ≤ 32767 * (NUM.one149 : Int) := by
  have hone := one_pos
  have hscale : NUM.val NUM.c32767 = 32767 * (NUM.one149 : Int) := by decide
  have hscaleNeg : NUM.val 0xC6FFFE00#32 = -(32767 * (NUM.one149 : Int)) := by decide
  have hx : NUM.isFinite x = true := isFinite_of_val_bounds (by linarith) (by linarith)
  have hlower : NUM.val 0xC6FFFE00#32 ≤ NUM.val (NUM.fmul x NUM.c32767) := by
    refine NUM.le_val_fmul hx (by decide) (by decide) ?_
    rw [hscale, hscaleNeg]
    nlinarith
  have hupper : NUM.val (NUM.fmul x NUM.c32767) ≤ NUM.val NUM.c32767 := by
    refine NUM.val_fmul_le hx (by decide) (by decide) ?_
    rw [hscale]
    nlinarith
  rw [hscaleNeg] at hlower
  rw [hscale] at hupper
  refine ⟨hx, NUM.isFinite_of_val_le (y := NUM.c32767) (by decide) ?_, hlower, hupper⟩
  rw [hscale]
  generalize NUM.val (NUM.fmul x NUM.c32767) = v at hlower hupper ⊢
  omega

theorem scaled_mono (hx : NUM.isFinite x = true) (hy : NUM.isFinite y = true) (h : NUM.val x ≤ NUM.val y) :
    NUM.val (NUM.fmul x NUM.c32767) ≤ NUM.val (NUM.fmul y NUM.c32767) := by
  have hscale : 0 ≤ NUM.val NUM.c32767 := by decide
  rw [NUM.fmul_of_finite hx (by decide), NUM.fmul_of_finite hy (by decide)]
  refine NUM.val_ofRat_mono NUM.one149_pos ?_
  rw [NUM.signed_fmul, NUM.signed_fmul]
  exact mul_le_mul_of_nonneg_right h hscale

theorem units_ofRat_sign (neg neg' : Bool) (p d : Nat) : NUM.units (NUM.ofRat neg p d) = NUM.units (NUM.ofRat neg' p d) := by
  rw [NUM.units_eq, NUM.units_eq (NUM.ofRat neg' p d), NUM.mag_ofRat, NUM.mag_ofRat]

/-- The product of the opposite value is the opposite product. -/
theorem roundHalfAway_scaled_neg (hx : NUM.isFinite x = true) :
    NUM.roundHalfAway (NUM.fmul x.neg NUM.c32767) = -NUM.roundHalfAway (NUM.fmul x NUM.c32767) := by
  have hneg : NUM.isFinite x.neg = true := by
    rw [NUM.isFinite_iff_units, NUM.units_neg, ← NUM.isFinite_iff_units]
    exact hx
  rw [NUM.fmul_of_finite hneg (by decide), NUM.fmul_of_finite hx (by decide), NUM.signBit_neg, NUM.units_neg]
  refine roundHalfAway_of_opposite ?_ ?_
  · rw [NUM.signBit_ofRat, NUM.signBit_ofRat]
    cases NUM.signBit x <;> rfl
  · exact units_ofRat_sign ..

/-! ### Convert -/

theorem flt_iff (hx : NUM.isNaN x = false) (hy : NUM.isNaN y = false) : NUM.flt x y = true ↔ NUM.val x < NUM.val y := by
  rw [NUM.flt, hx, hy]
  simp

theorem convert_of_above {c : Config} (hx : NUM.isNaN x = false) (h : (NUM.one149 : Int) < NUM.val x) : convert c x = 32767 := by
  rw [convert, if_pos ((flt_iff (by decide) hx).mpr (by rw [val_one]; exact h))]

theorem convert_of_below {c : Config} (hx : NUM.isNaN x = false) (h : NUM.val x < -(NUM.one149 : Int)) :
    convert c x = c.clipNeg.toInt := by
  have hone := one_pos
  have hneg : NUM.val NUM.one.neg = -(NUM.one149 : Int) := by decide
  rw [convert, if_neg, if_pos ((flt_iff hx (by decide)).mpr (by rw [hneg]; exact h))]
  rw [flt_iff (by decide) hx, val_one]
  linarith

theorem convert_of_between {c : Config} (hx : NUM.isNaN x = false) (hlo : -(NUM.one149 : Int) ≤ NUM.val x)
    (hhi : NUM.val x ≤ (NUM.one149 : Int)) : convert c x = NUM.roundHalfAway (NUM.fmul x NUM.c32767) := by
  have hneg : NUM.val NUM.one.neg = -(NUM.one149 : Int) := by decide
  rw [convert, if_neg, if_neg]
  · rw [flt_iff hx (by decide), hneg]
    linarith
  · rw [flt_iff (by decide) hx, val_one]
    linarith

theorem clipNeg_le (c : Config) : c.clipNeg.toInt ≤ -32767 := by
  cases c.clipNeg <;> decide

theorem convert_between_bounds {c : Config} (hx : NUM.isNaN x = false) (hlo : -(NUM.one149 : Int) ≤ NUM.val x)
    (hhi : NUM.val x ≤ (NUM.one149 : Int)) : -32767 ≤ convert c x ∧ convert c x ≤ 32767 := by
  obtain ⟨-, -, hmin, hmax⟩ := scaled_bounds hlo hhi
  rw [convert_of_between hx hlo hhi]
  exact roundHalfAway_bounds hmin hmax

/-- Convert is at most 32767, and above −1.0 at least −32767. -/
theorem convert_le {c : Config} (hx : NUM.isNaN x = false) : convert c x ≤ 32767 := by
  rcases lt_or_ge (NUM.one149 : Int) (NUM.val x) with habove | hhi
  · exact (convert_of_above hx habove).le
  · rcases lt_or_ge (NUM.val x) (-(NUM.one149 : Int)) with hbelow | hlo
    · rw [convert_of_below hx hbelow]
      exact (clipNeg_le c).trans (by norm_num)
    · exact (convert_between_bounds hx hlo hhi).2

theorem convert_mono {c : Config} (hx : NUM.isNaN x = false) (hy : NUM.isNaN y = false) (h : NUM.val x ≤ NUM.val y) :
    convert c x ≤ convert c y := by
  rcases lt_or_ge (NUM.one149 : Int) (NUM.val y) with habove | hhi
  · rw [convert_of_above hy habove]
    exact convert_le hx
  · rcases lt_or_ge (NUM.val x) (-(NUM.one149 : Int)) with hbelow | hlo
    · rw [convert_of_below hx hbelow]
      rcases lt_or_ge (NUM.val y) (-(NUM.one149 : Int)) with hbelow' | hlo'
      · exact (convert_of_below hy hbelow').ge
      · exact (clipNeg_le c).trans (convert_between_bounds hy hlo' hhi).1
    · have hlo' := hlo.trans h
      have hhi' := h.trans hhi
      rw [convert_of_between hx hlo hhi', convert_of_between hy hlo' hhi]
      exact roundHalfAway_mono (scaled_mono (scaled_bounds hlo hhi').1 (scaled_bounds hlo' hhi).1 h)

end

/-- Settles O56: the three pieces of Convert, each non-decreasing, and the middle one odd and nearest. -/
theorem convertIsMonotoneAndOdd : Obligations.ConvertIsMonotoneAndOdd := by
  intro c x y hx hy
  refine ⟨convert_mono hx hy, convert_of_above hx, fun hbelow => ?_, ?_, fun hlo hhi => ⟨⟨?_, convert_between_bounds hx hlo hhi⟩, ?_⟩⟩
  · rw [convert_of_below hx hbelow, Config.clipNeg]
    cases c.backend
    case fp => cases c.clipNegFp <;> rfl
    case vr => cases c.clipNegVr <;> rfl
  · rw [convert_of_between (by decide) (by decide) (by decide)]
    decide
  · have hneg : NUM.isNaN x.neg = false := by
      refine NUM.isNaN_of_isFinite ?_
      rw [NUM.isFinite_iff_units, NUM.units_neg, ← NUM.isFinite_iff_units]
      exact (scaled_bounds hlo hhi).1
    rw [convert_of_between hx hlo hhi, convert_of_between hneg (by rw [NUM.val_neg]; linarith) (by rw [NUM.val_neg]; linarith),
      roundHalfAway_scaled_neg (scaled_bounds hlo hhi).1]
  · rw [convert_of_between hx hlo hhi]
    obtain ⟨hnear, htie⟩ := roundHalfAway_nearest (NUM.fmul x NUM.c32767)
    exact ⟨(scaled_bounds hlo hhi).2.1, hnear, htie⟩

end Sys2Proof.Machine

/-! The assembler's reading of what the disassembler prints, at the level of characters: digits, splitting and trimming (R149, R150). -/

namespace Sys2Proof.Machine

/-! ### Digits -/

/-- A base whose digit characters read back. -/
def ReadableBase (base : Nat) : Prop := 2 ≤ base ∧ ∀ d < base, digitOf base (digitChar d) = some d

theorem readableBase_ten : ReadableBase 10 := by unfold ReadableBase; decide

theorem readableBase_sixteen : ReadableBase 16 := by unfold ReadableBase; decide

theorem readDigits_append (base acc : Nat) (s t : Text) :
    readDigits base acc (s ++ t) = (readDigits base acc s).bind fun a => readDigits base a t := by
  induction s generalizing acc with
  | nil => rfl
  | cons c s ih =>
    rw [List.cons_append, readDigits, readDigits]
    cases digitOf base c with
    | none => rfl
    | some d => exact ih _

theorem readDigits_digitChar {base d : Nat} (hbase : ReadableBase base) (hd : d < base) (acc : Nat) (t : Text) :
    readDigits base acc (digitChar d :: t) = readDigits base (acc * base + d) t := by
  rw [readDigits, hbase.2 d hd]

theorem readDigits_nil (base acc : Nat) : readDigits base acc [] = some acc := rfl

theorem readDigits_zeros (acc k : Nat) : readDigits 10 acc (List.replicate k '0') = some (acc * 10 ^ k) := by
  induction k generalizing acc with
  | zero => simp [readDigits]
  | succ k ih =>
    have hzero : readDigits 10 acc ('0' :: List.replicate k '0') = readDigits 10 (acc * 10 + 0) (List.replicate k '0') :=
      readDigits_digitChar readableBase_ten (by decide : 0 < 10) acc _
    rw [List.replicate_succ, hzero, ih]
    congr 1
    ring

/-- With fuel for all its digits, a printed number reads back in front of any text. -/
theorem readDigits_showDigits {base : Nat} (hbase : ReadableBase base) {fuel n : Nat} (hn : n < 2 ^ fuel) (acc : Text) :
    readDigits base 0 (showDigits base fuel n acc) = readDigits base n acc := by
  have hpos : 0 < base := by have := hbase.1; omega
  induction fuel generalizing n acc with
  | zero => rw [show n = 0 by simpa using hn]; rfl
  | succ fuel ih =>
    have hlast : n % base < base := Nat.mod_lt n hpos
    rw [showDigits]
    split
    next hzero =>
      rw [readDigits_digitChar hbase hlast, Nat.zero_mul, Nat.zero_add, Nat.mod_eq_of_lt (Nat.lt_of_div_eq_zero hpos hzero)]
    next =>
      have hle : n / base ≤ n / 2 := Nat.div_le_div_left hbase.1 (by decide)
      rw [ih (by rw [pow_succ] at hn; omega), readDigits_digitChar hbase hlast, Nat.div_add_mod']

theorem mem_showDigits {base : Nat} (hpos : 0 < base) {fuel n : Nat} {acc : Text} {c : Char}
    (h : c ∈ showDigits base fuel n acc) : c ∈ acc ∨ ∃ d < base, c = digitChar d := by
  induction fuel generalizing n acc with
  | zero => exact .inl h
  | succ fuel ih =>
    have hcons (hc : c ∈ digitChar (n % base) :: acc) : c ∈ acc ∨ ∃ d < base, c = digitChar d := by
      obtain rfl | hc := List.mem_cons.1 hc
      · exact .inr ⟨_, Nat.mod_lt n hpos, rfl⟩
      · exact .inl hc
    rw [showDigits] at h
    split at h
    · exact hcons h
    · exact (ih h).elim hcons .inr

theorem showDigits_ne_nil {base fuel n : Nat} {acc : Text} (h : acc ≠ []) : showDigits base fuel n acc ≠ [] := by
  induction fuel generalizing n acc with
  | zero => exact h
  | succ fuel ih =>
    rw [showDigits]
    split
    · exact List.cons_ne_nil _ _
    · exact ih (List.cons_ne_nil _ _)

/-- A text of decimal digits. -/
def Decimal (t : Text) : Prop := ∀ c ∈ t, ∃ d < 10, c = digitChar d

theorem Decimal.not_mem {t : Text} (h : Decimal t) {c : Char} (hc : ∀ d < 10, c ≠ digitChar d) : c ∉ t := by
  intro hmem
  obtain ⟨d, hd, heq⟩ := h c hmem
  exact hc d hd heq

theorem decimal_showNat (n : Nat) : Decimal (showNat n) := fun _ hc =>
  (mem_showDigits (by decide) hc).resolve_left List.not_mem_nil

theorem showNat_ne_nil (n : Nat) : showNat n ≠ [] := by
  rw [showNat, showDigits]
  split
  · exact List.cons_ne_nil _ _
  · exact showDigits_ne_nil (List.cons_ne_nil _ _)

theorem readDigits_showNat (n : Nat) : readDigits 10 0 (showNat n) = some n :=
  readDigits_showDigits readableBase_ten Nat.lt_log2_self []

theorem readNat_showNat (n : Nat) : readNat 10 (showNat n) = some n := by
  rw [readNat, if_neg (by simp [showNat_ne_nil]), readDigits_showNat]

/-! ### Integers -/

theorem readInt_of_decimal {t : Text} (h : Decimal t) : readInt t = (readNat 10 t).map Int.ofNat := by
  unfold readInt
  split
  · exact absurd List.mem_cons_self (h.not_mem (by decide))
  · exact absurd (by simp) (h.not_mem (c := 'x') (by decide))
  · rfl

theorem readInt_showNat (n : Nat) : readInt (showNat n) = some (n : Int) := by
  rw [readInt_of_decimal (decimal_showNat n), readNat_showNat]
  rfl

theorem readInt_neg_showNat (n : Nat) : readInt ('-' :: showNat n) = some (-(n : Int)) := by
  rw [readInt, readNat_showNat]
  rfl

theorem readWord_of_readInt {t : Text} {i : Int} (h : readInt t = some i) (hlo : -(2 ^ 31) ≤ i) (hhi : i < 2 ^ 32) :
    readWord t = .ok (BitVec.ofInt 32 i) := by
  rw [readWord, h]
  exact if_pos ⟨hlo, hhi⟩

theorem readWord_showNat (w : Word) : readWord (showNat w.toNat) = .ok w := by
  have hw := w.isLt
  rw [readWord_of_readInt (readInt_showNat _) (by omega) (by omega), BitVec.ofInt_natCast, BitVec.ofNat_toNat, BitVec.setWidth_eq]

/-- A word printed signed. -/
theorem readWord_signed (w : Word) :
    readWord (if w.toInt < 0 then '-' :: showNat w.toInt.natAbs else showNat w.toInt.natAbs) = .ok w := by
  have hlo := BitVec.two_mul_toInt_lt (x := w)
  have hhi := BitVec.le_two_mul_toInt (x := w)
  have hread : readInt (if w.toInt < 0 then '-' :: showNat w.toInt.natAbs else showNat w.toInt.natAbs) = some w.toInt := by
    split
    next hneg => rw [readInt_neg_showNat, Int.ofNat_natAbs_of_nonpos hneg.le, neg_neg]
    next hneg => rw [readInt_showNat, Int.natAbs_of_nonneg (not_lt.1 hneg)]
  rw [readWord_of_readInt hread (by omega) (by omega), BitVec.ofInt_toInt]

theorem readNat_showHex (w : Word) :
    readNat 16 ([28, 24, 20, 16, 12, 8, 4, 0].map fun k => digitChar (w.toNat / 2 ^ k % 16)) = some w.toNat := by
  have hw := w.isLt
  have hdigit (k : Nat) : w.toNat / 2 ^ k % 16 < 16 := Nat.mod_lt _ (by decide)
  simp only [readNat, List.map_cons, List.map_nil, List.isEmpty_cons, Bool.false_eq_true, if_false,
    readDigits_digitChar readableBase_sixteen (hdigit _), readDigits_nil]
  congr 1
  omega

theorem readWord_showHex (w : Word) : readWord (showHex w) = .ok w := by
  have hw := w.isLt
  have hread : readInt (showHex w) = some (w.toNat : Int) := by
    rw [showHex, readInt, readNat_showHex]
    rfl
  rw [readWord_of_readInt hread (by omega) (by omega), BitVec.ofInt_natCast, BitVec.ofNat_toNat, BitVec.setWidth_eq]

theorem readF32_showHex (w : Word) : readF32 (showHex w) = .ok w := by
  simp only [showHex, readF32, List.length_map, List.length_cons, List.length_nil, if_true, readNat_showHex, Option.map_some,
    BitVec.ofNat_toNat, BitVec.setWidth_eq]

theorem readVoice_showNat (v : BitVec 8) : readVoice ('v' :: showNat v.toNat) = .ok v := by
  rw [readVoice, readNat_showNat]
  simp [v.isLt]

/-! ### Splitting -/

section
variable {p : Char → Bool} {s : Text}

theorem splitAtChar_of_forall (h : ∀ c ∈ s, p c = false) : splitAtChar p s = (s, none) := by
  induction s with
  | nil => rfl
  | cons c s ih =>
    obtain ⟨hc, hs⟩ := List.forall_mem_cons.1 h
    simp [splitAtChar, hc, ih hs]

theorem splitAtChar_append (h : ∀ c ∈ s, p c = false) {c : Char} (hc : p c = true) (t : Text) :
    splitAtChar p (s ++ c :: t) = (s, some t) := by
  induction s with
  | nil => simp [splitAtChar, hc]
  | cons d s ih =>
    obtain ⟨hd, hs⟩ := List.forall_mem_cons.1 h
    simp [splitAtChar, hd, ih hs]

theorem splitAll_of_forall (h : ∀ c ∈ s, p c = false) : splitAll p s = [s] := by
  induction s with
  | nil => rfl
  | cons c s ih =>
    obtain ⟨hc, hs⟩ := List.forall_mem_cons.1 h
    simp [splitAll, hc, ih hs]

theorem splitAll_append (h : ∀ c ∈ s, p c = false) {c : Char} (hc : p c = true) (t : Text) :
    splitAll p (s ++ c :: t) = s :: splitAll p t := by
  induction s with
  | nil => simp [splitAll, hc]
  | cons d s ih =>
    obtain ⟨hd, hs⟩ := List.forall_mem_cons.1 h
    simp [splitAll, hd, ih hs]

end

/-! ### Trimming -/

/-- A text that neither begins nor ends with white space. -/
def Solid (t : Text) : Prop := (∀ c ∈ t.head?, isBlank c = false) ∧ ∀ c ∈ t.getLast?, isBlank c = false

theorem dropWhile_isBlank_of_head? {t : Text} (h : ∀ c ∈ t.head?, isBlank c = false) : t.dropWhile isBlank = t := by
  cases t with
  | nil => rfl
  | cons c t => exact List.dropWhile_cons_of_neg (by simp [h c rfl])

theorem trim_of_solid {t : Text} (h : Solid t) : trim t = t := by
  obtain ⟨hhead, hlast⟩ := h
  rw [trim, dropWhile_isBlank_of_head? hhead, dropWhile_isBlank_of_head? (by simpa using hlast), List.reverse_reverse]

theorem trim_blank_cons (t : Text) : trim (' ' :: t) = trim t := by
  rw [trim, List.dropWhile_cons_of_pos (by decide), trim]

theorem solid_append {s t : Text} (hs : Solid s) (ht : Solid t) (hs' : s ≠ []) (ht' : t ≠ []) (m : Text) :
    Solid (s ++ (m ++ t)) := by
  refine ⟨fun c hc => hs.1 c ?_, fun c hc => ht.2 c ?_⟩
  · rwa [List.head?_append_of_ne_nil _ hs'] at hc
  · rwa [← List.append_assoc, List.getLast?_append_of_ne_nil _ ht'] at hc

/-! ### Names and operands -/

/-- A character that no step of the reading of a line takes for a separator. -/
def plainChar (c : Char) : Bool := !isBlank c && c != ';' && c != ','

/-- A text that stands in a line as one name or one operand. -/
def Plain (t : Text) : Prop := t ≠ [] ∧ ∀ c ∈ t, plainChar c = true

theorem isBlank_of_plainChar {c : Char} (h : plainChar c = true) : isBlank c = false := by
  simp only [plainChar, Bool.and_eq_true, Bool.not_eq_true'] at h
  exact h.1.1

theorem plainChar_digitChar : ∀ d < 16, plainChar (digitChar d) = true := by
  intro d hd
  interval_cases d <;> rfl

theorem Plain.not_separator {t : Text} (h : Plain t) {s : Char} (hs : plainChar s = false) : ∀ c ∈ t, (c == s) = false := by
  intro c hc
  rw [beq_eq_false_iff_ne]
  rintro rfl
  exact absurd (h.2 _ hc) (by simp [hs])

theorem Plain.not_blank {t : Text} (h : Plain t) : ∀ c ∈ t, isBlank c = false := fun c hc => isBlank_of_plainChar (h.2 c hc)

theorem Plain.solid {t : Text} (h : Plain t) : Solid t :=
  ⟨fun c hc => h.not_blank c (List.mem_of_mem_head? hc), fun c hc => h.not_blank c (List.mem_of_mem_getLast? hc)⟩

theorem Plain.cons {c : Char} {t : Text} (hc : plainChar c = true) (h : ∀ c ∈ t, plainChar c = true) : Plain (c :: t) :=
  ⟨List.cons_ne_nil c t, List.forall_mem_cons.2 ⟨hc, h⟩⟩

theorem Decimal.plainChar {t : Text} (h : Decimal t) : ∀ c ∈ t, plainChar c = true := by
  intro c hc
  obtain ⟨d, hd, rfl⟩ := h c hc
  exact plainChar_digitChar d (by omega)

theorem plain_showNat (n : Nat) : Plain (showNat n) := ⟨showNat_ne_nil n, (decimal_showNat n).plainChar⟩

theorem plain_showHex (w : Word) : Plain (showHex w) := by
  refine Plain.cons (by decide) (List.forall_mem_cons.2 ⟨by decide, fun c hc => ?_⟩)
  obtain ⟨k, -, rfl⟩ := List.mem_map.1 hc
  exact plainChar_digitChar _ (Nat.mod_lt _ (by decide))

section
variable {ops : List Text}

theorem joinOperands_cons (t u : Text) (us : List Text) :
    joinOperands (t :: u :: us) = t ++ ([',', ' '] ++ joinOperands (u :: us)) := rfl

/-- Operands in front of which no separator stands: joined, they begin and end with one of their own characters. -/
theorem joinOperands_solid (hne : ops ≠ []) (h : ∀ t ∈ ops, Plain t) : joinOperands ops ≠ [] ∧ Solid (joinOperands ops) := by
  induction ops with
  | nil => exact absurd rfl hne
  | cons t ts ih =>
    obtain ⟨ht, hts⟩ := List.forall_mem_cons.1 h
    cases ts with
    | nil => exact ⟨ht.1, ht.solid⟩
    | cons u us =>
      obtain ⟨hne', hsolid⟩ := ih (List.cons_ne_nil u us) hts
      rw [joinOperands_cons]
      exact ⟨by simp, solid_append ht.solid hsolid ht.1 hne' _⟩

theorem joinOperands_no_comment (h : ∀ t ∈ ops, Plain t) : ∀ c ∈ joinOperands ops, (c == ';') = false := by
  induction ops with
  | nil => exact fun c hc => absurd hc List.not_mem_nil
  | cons t ts ih =>
    obtain ⟨ht, hts⟩ := List.forall_mem_cons.1 h
    have ht' := ht.not_separator (s := ';') (by decide)
    cases ts with
    | nil => exact ht'
    | cons u us =>
      rw [joinOperands_cons]
      exact List.forall_mem_append.2 ⟨ht', List.forall_mem_append.2 ⟨by simp, ih hts⟩⟩

theorem split_joinOperands (hne : ops ≠ []) (h : ∀ t ∈ ops, Plain t) :
    (splitAll (fun c => c == ',') (joinOperands ops)).map trim = ops := by
  induction ops with
  | nil => exact absurd rfl hne
  | cons t ts ih =>
    obtain ⟨ht, hts⟩ := List.forall_mem_cons.1 h
    have hcomma := ht.not_separator (s := ',') (by decide)
    have htrim := trim_of_solid ht.solid
    cases ts with
    | nil => rw [joinOperands, splitAll_of_forall hcomma, List.map_singleton, htrim]
    | cons u us =>
      have hrest := ih (List.cons_ne_nil u us) hts
      have hblank : (splitAll (fun c => c == ',') (' ' :: joinOperands (u :: us))).map trim =
          (splitAll (fun c => c == ',') (joinOperands (u :: us))).map trim := by
        rw [splitAll]
        cases hsplit : splitAll (fun c => c == ',') (joinOperands (u :: us)) with
        | nil => exact absurd (hrest ▸ congrArg (List.map trim) hsplit) (List.cons_ne_nil u us)
        | cons x xs => simp [trim_blank_cons]
      rw [joinOperands_cons, List.cons_append, List.cons_append, List.nil_append, splitAll_append hcomma (by decide),
        List.map_cons, htrim, hblank, hrest]

end

/-! ### Lines -/

/-- A name with its operands, as the disassembler writes a line. -/
def commandLine (name : Text) : List Text → Text
  | [] => name
  | t :: ts => name ++ ' ' :: joinOperands (t :: ts)

/-- The reading of a line comes back to the name and the operands it was written from. -/
theorem assembleLine_commandLine {name : Text} {ops : List Text} (hname : Plain name) (hops : ∀ t ∈ ops, Plain t)
    (hexpand : expand name ops = .ok [(name, ops)]) :
    assembleLine (commandLine name ops) = assembleAll [(name, ops)] := by
  have hcomment := hname.not_separator (s := ';') (by decide)
  cases ops with
  | nil =>
    simp only [assembleLine, commandLine, splitAtChar_of_forall hcomment, trim_of_solid hname.solid,
      splitAtChar_of_forall hname.not_blank, List.isEmpty_iff, hname.1, if_false, Option.getD_none,
      show trim [] = [] from rfl, if_true, hexpand]
  | cons t ts =>
    obtain ⟨hne, hsolid⟩ := joinOperands_solid (List.cons_ne_nil t ts) hops
    have hline : ∀ c ∈ name ++ ' ' :: joinOperands (t :: ts), (c == ';') = false :=
      List.forall_mem_append.2 ⟨hcomment, List.forall_mem_cons.2 ⟨by decide, joinOperands_no_comment hops⟩⟩
    have hlineSolid : Solid (name ++ ' ' :: joinOperands (t :: ts)) := solid_append hname.solid hsolid hname.1 hne [' ']
    simp only [assembleLine, commandLine, splitAtChar_of_forall hline, trim_of_solid hlineSolid,
      splitAtChar_append hname.not_blank (show isBlank ' ' = true by decide), List.isEmpty_iff, List.append_eq_nil_iff, hname.1,
      false_and, if_false, Option.getD_some, trim_of_solid hsolid, hne,
      split_joinOperands (List.cons_ne_nil t ts) hops, hexpand]

end Sys2Proof.Machine

/-! Decimal literals: what the shortest decimal of a NUM reads back as (R149, R150). -/

namespace Sys2Proof.Machine

/-! ### Scaling a quotient -/

theorem roundEven_mul_right {c : Nat} (hc : 0 < c) (p d : Nat) : NUM.roundEven (p * c) (d * c) = NUM.roundEven p d := by
  simp only [NUM.roundEven, Nat.mul_mod_mul_right, Nat.mul_div_mul_right _ _ hc, ← Nat.mul_assoc, Nat.mul_lt_mul_right hc]

theorem ofRat_mul_right {c : Nat} (hc : 0 < c) (neg : Bool) (p d : Nat) : NUM.ofRat neg (p * c) (d * c) = NUM.ofRat neg p d := by
  simp only [NUM.ofRat, NUM.roundMag, Nat.mul_div_mul_right _ _ hc, Nat.mul_right_comm d c, roundEven_mul_right hc]

/-! ### Moving a power of ten -/

/-- A factor ten of the digits is one more in the exponent. -/
theorem ofDecimal_mul_ten (neg : Bool) (m : Nat) (k : Int) : ofDecimal neg (m * 10) k = ofDecimal neg m (k + 1) := by
  have hten : 0 < 10 := by decide
  obtain ⟨n, rfl | rfl⟩ := k.eq_nat_or_neg
  · rw [ofDecimal, if_pos (by omega), ofDecimal, if_pos (by omega)]
    congr 2
    rw [show ((n : Int) + 1).toNat = n + 1 by omega, Int.toNat_natCast]
    ring
  · cases n with
    | zero => simp [ofDecimal]
    | succ n =>
      have hleft : ofDecimal neg (m * 10) (-((n + 1 : Nat) : Int)) = NUM.ofRat neg (m * NUM.one149) (10 ^ n) := by
        rw [ofDecimal, if_neg (by omega), show (-(-((n + 1 : Nat) : Int))).toNat = n + 1 by omega, pow_succ,
          Nat.mul_right_comm, ofRat_mul_right hten]
      rw [hleft, ofDecimal]
      cases n with
      | zero => simp
      | succ n => rw [if_neg (by omega), show (-(-((n + 1 + 1 : Nat) : Int) + 1)).toNat = n + 1 by omega]

theorem ofDecimal_mul_pow (neg : Bool) (m j : Nat) (k : Int) : ofDecimal neg (m * 10 ^ j) k = ofDecimal neg m (k + j) := by
  induction j generalizing k with
  | zero => simp
  | succ j ih =>
    rw [pow_succ, ← Nat.mul_assoc, ofDecimal_mul_ten, ih]
    congr 1
    omega

theorem ofDecimal_dropZero (neg : Bool) (d : Nat × Int) :
    ofDecimal neg (dropZero d).1 (dropZero d).2 = ofDecimal neg d.1 d.2 := by
  rw [dropZero]
  split
  next hzero => rw [← ofDecimal_mul_ten, Nat.div_mul_cancel (Nat.dvd_of_mod_eq_zero hzero)]
  next => rfl

/-! ### Decimals with a point -/

/-- A text of digits, a point and digits that stands for `m × 10^k`. -/
def WritesDecimal (t : Text) (m : Nat) (k : Int) : Prop :=
  ∃ whole fraction n, t = whole ++ '.' :: fraction ∧ whole ≠ [] ∧ fraction ≠ [] ∧ Decimal whole ∧ Decimal fraction ∧
    readDigits 10 0 (whole ++ fraction) = some n ∧ ∀ neg, ofDecimal neg n (-(fraction.length : Int)) = ofDecimal neg m k

theorem decimal_zeros (n : Nat) : Decimal (List.replicate n '0') := fun _ hc =>
  ⟨0, by decide, List.eq_of_mem_replicate hc⟩

theorem Decimal.append {s t : Text} (hs : Decimal s) (ht : Decimal t) : Decimal (s ++ t) := List.forall_mem_append.2 ⟨hs, ht⟩

theorem writesDecimal_zero : WritesDecimal ['0', '.', '0'] 0 0 :=
  ⟨['0'], ['0'], 0, rfl, by simp, by simp, decimal_zeros 1, decimal_zeros 1, rfl, fun neg => ofDecimal_mul_ten neg 0 (-1)⟩

/-- The three shapes of a decimal with a point: an integer, a point among the digits, zeros in front of them. -/
theorem writesDecimal_showDecimal (m : Nat) (k : Int) : WritesDecimal (showDecimal m k) m k := by
  have hdec := decimal_showNat m
  have hread := readDigits_showNat m
  simp only [showDecimal]
  split
  next hk =>
    refine ⟨showNat m ++ List.replicate k.toNat '0', ['0'], m * 10 ^ k.toNat * 10, by simp, by simp [showNat_ne_nil], by simp,
      hdec.append (decimal_zeros _), decimal_zeros 1, ?_, fun neg => ?_⟩
    · rw [readDigits_append, readDigits_append, hread, Option.bind_some, readDigits_zeros, Option.bind_some]
      exact readDigits_zeros _ 1
    · rw [ofDecimal_mul_ten, ofDecimal_mul_pow]
      congr 1
      simp only [List.length_singleton]
      omega
  next hk =>
    split
    next hlen =>
      refine ⟨(showNat m).take ((showNat m).length - (-k).toNat), (showNat m).drop ((showNat m).length - (-k).toNat), m, rfl,
        ?_, ?_, fun c hc => hdec c (List.mem_of_mem_take hc), fun c hc => hdec c (List.mem_of_mem_drop hc), ?_, fun neg => ?_⟩
      · rw [← List.length_pos_iff, List.length_take]
        omega
      · rw [← List.length_pos_iff, List.length_drop]
        omega
      · rw [List.take_append_drop, hread]
      · congr 1
        rw [List.length_drop]
        omega
    next hlen =>
      refine ⟨['0'], List.replicate ((-k).toNat - (showNat m).length) '0' ++ showNat m, m, rfl, by simp, by simp [showNat_ne_nil],
        decimal_zeros 1, (decimal_zeros _).append hdec, ?_, fun neg => ?_⟩
      · rw [← List.append_assoc, show ['0'] = List.replicate 1 '0' from rfl, ← List.replicate_add, readDigits_append, readDigits_zeros,
          Nat.zero_mul, Option.bind_some, hread]
      · congr 1
        rw [List.length_append, List.length_replicate]
        omega

section
variable {t : Text} {m : Nat} {k : Int}

/-- The reader finds the point, no exponent and one number in the digits on both sides. -/
theorem readDecimal_of_writesDecimal (h : WritesDecimal t m k) (neg : Bool) : readDecimal neg t = some (ofDecimal neg m k) := by
  obtain ⟨whole, fraction, n, rfl, hwhole, hfraction, hdecWhole, hdecFraction, hread, hvalue⟩ := h
  have hexponent : ∀ c ∈ whole ++ '.' :: fraction, (c == 'e' || c == 'E') = false := by
    have hdigits {s : Text} (hs : Decimal s) : ∀ c ∈ s, (c == 'e' || c == 'E') = false := by
      intro c hc
      simp only [Bool.or_eq_false_iff, beq_eq_false_iff_ne]
      exact ⟨fun heq => hs.not_mem (by decide) (heq ▸ hc), fun heq => hs.not_mem (by decide) (heq ▸ hc)⟩
    exact List.forall_mem_append.2 ⟨hdigits hdecWhole, List.forall_mem_cons.2 ⟨by decide, hdigits hdecFraction⟩⟩
  have hpoint : ∀ c ∈ whole, (c == '.') = false := fun c hc =>
    beq_eq_false_iff_ne.2 fun heq => hdecWhole.not_mem (by decide) (heq ▸ hc)
  simp only [readDecimal, splitAtChar_of_forall hexponent, splitAtChar_append hpoint (show ('.' == '.') = true by decide)]
  simp [hwhole, hfraction, hread, hvalue]

theorem readF32_of_writesDecimal (h : WritesDecimal t m k) (neg : Bool) :
    readF32 ((if neg then ['-'] else []) ++ t) = .ok (ofDecimal neg m k) := by
  cases neg with
  | true => simp [readF32, readDecimal_of_writesDecimal h]
  | false =>
    have hread := readDecimal_of_writesDecimal h false
    obtain ⟨whole, fraction, n, rfl, -, -, hdecWhole, hdecFraction, -⟩ := h
    have hnot {c : Char} (hc : ∀ d < 10, c ≠ digitChar d) (hpoint : c ≠ '.') : c ∉ whole ++ '.' :: fraction := by
      simp [hdecWhole.not_mem hc, hdecFraction.not_mem hc, hpoint]
    have hx := hnot (c := 'x') (by decide) (by decide)
    have hminus := hnot (c := '-') (by decide) (by decide)
    rw [if_neg Bool.false_ne_true, List.nil_append, readF32, hread]
    · exact fun h heq => hx (heq ▸ by simp)
    · exact fun d heq => hminus (heq ▸ by simp)

theorem plainChar_of_writesDecimal (h : WritesDecimal t m k) : ∀ c ∈ t, plainChar c = true := by
  obtain ⟨whole, fraction, n, rfl, -, -, hdecWhole, hdecFraction, -⟩ := h
  exact List.forall_mem_append.2 ⟨hdecWhole.plainChar, List.forall_mem_cons.2 ⟨by decide, hdecFraction.plainChar⟩⟩

end

/-! ### The shortest decimal -/

/-- A decimal that the search returns reads back as the value it was searched for. -/
theorem ofDecimal_of_shortestFrom {x : NUM} {lead : Int} {fuel n : Nat} {d : Nat × Int}
    (h : shortestFrom x lead fuel n = some d) : ofDecimal x.signBit d.1 d.2 = x := by
  induction fuel generalizing n with
  | zero => cases h
  | succ fuel ih =>
    simp only [shortestFrom] at h
    split at h
    next m hfind =>
      have hread := List.find?_some hfind
      cases h
      exact eq_of_beq hread
    next => exact ih h

/-- An `F32` operand is printed as its raw pattern, or as its sign and a decimal that has its value. -/
theorem showF32_cases (x : NUM) :
    showF32 x = showHex x ∨ ∃ t m k, showF32 x = (if x.signBit then ['-'] else []) ++ t ∧ WritesDecimal t m k ∧
      ofDecimal x.signBit m k = x := by
  by_cases hfinite : x.isFinite = true
  · by_cases hzero : x.units = 0
    · refine .inr ⟨['0', '.', '0'], 0, 0, by simp [showF32, hfinite, hzero], writesDecimal_zero, ?_⟩
      exact NUM.ofRat_eq _ (by decide) (NUM.isNaN_of_isFinite hfinite) rfl (by simp [hzero])
    · cases hd : shortestFrom x (leadExponent x.units 90 39) 9 1 with
      | some d =>
        exact .inr ⟨_, _, _, by simp [showF32, hfinite, hzero, hd], writesDecimal_showDecimal (dropZero d).1 (dropZero d).2,
          by rw [ofDecimal_dropZero, ofDecimal_of_shortestFrom hd]⟩
      | none => exact .inl (by simp [showF32, hfinite, hzero, hd])
  · exact .inl (by simp [showF32, hfinite])

theorem readF32_showF32 (x : NUM) : readF32 (showF32 x) = .ok x := by
  obtain hraw | ⟨t, m, k, hshow, ht, hvalue⟩ := showF32_cases x
  · rw [hraw, readF32_showHex]
  · rw [hshow, readF32_of_writesDecimal ht, hvalue]

theorem plain_showF32 (x : NUM) : Plain (showF32 x) := by
  obtain hraw | ⟨t, m, k, hshow, ht, -⟩ := showF32_cases x
  · rw [hraw]
    exact plain_showHex x
  · have hsign : ∀ c ∈ (if x.signBit then ['-'] else [] : Text), plainChar c = true := by
      split
      · simp
        decide
      · simp
    refine ⟨?_, ?_⟩
    · obtain ⟨whole, fraction, n, rfl, -⟩ := ht
      simp [hshow]
    · rw [hshow]
      exact List.forall_mem_append.2 ⟨hsign, plainChar_of_writesDecimal ht⟩

end Sys2Proof.Machine

/-! The assembler and the disassembler on whole commands (R149, R150), and the obligation O5. -/

namespace Sys2Proof.Machine

/-! ### The table of mnemonics -/

theorem find?_name : ∀ r ∈ asmTable, asmTable.find? (fun x => x.name == r.name) = some r := by decide

theorem plain_name {r : AsmRow} (h : r ∈ asmTable) : Plain r.name := by
  have hall : asmTable.all (fun r => !r.name.isEmpty && r.name.all plainChar) = true := by decide
  have hr := List.all_eq_true.1 hall r h
  rw [Bool.and_eq_true, Bool.not_eq_true', List.isEmpty_eq_false_iff, List.all_eq_true] at hr
  exact hr

/-- The names that stand for other commands (R149). -/
def pseudoNames : List Text := ["nop".toList, "led.on".toList, "led.off".toList, "fp.play".toList, "vr.note".toList]

theorem expand_of_not_mem {name : Text} (h : name ∉ pseudoNames) (ops : List Text) : expand name ops = .ok [(name, ops)] := by
  simp only [pseudoNames, List.mem_cons, List.not_mem_nil, or_false, not_or] at h
  obtain ⟨hnop, hon, hoff, hplay, hnote⟩ := h
  simp only [expand, if_neg hnop, if_neg hon, if_neg hoff, if_neg hplay, if_neg hnote]

theorem name_not_pseudo : ∀ r ∈ asmTable, r.name ∉ pseudoNames := by decide

theorem name_ne_illegal : ∀ r ∈ asmTable, r.name ≠ ".illegal".toList := by decide

/-- Every opcode of R146 has its mnemonic. -/
theorem find?_op {op : Nat} (h : ControlOpcode op ∨ VoiceOpcode .fp op ∨ VoiceOpcode .vr op) :
    ∃ r ∈ asmTable, r.op = op ∧ asmTable.find? (fun r => r.op == op) = some r := by
  have hsome : (asmTable.find? fun r => r.op == op).isSome = true := by
    rcases h with ⟨hlo, hhi⟩ | ⟨hlo, hhi⟩ | ⟨hlo, hhi⟩ | ⟨hlo, hhi⟩ <;> interval_cases op <;> rfl
  obtain ⟨r, hr⟩ := Option.isSome_iff_exists.1 hsome
  exact ⟨r, List.mem_of_find?_eq_some hr, eq_of_beq (List.find?_some hr :), hr⟩

/-! ### Operands -/

/-- Every kind of operand is read back from what is printed of it. -/
theorem readData_showData (k : AsmKind) (d : Word) : readData k (showData k d) = .ok (d, none) := by
  cases k with
  | unsigned | stored => simp only [showData, readData, readWord_showNat]; rfl
  | signed => simp only [showData, readData, readWord_signed]; rfl
  | float => simp only [showData, readData, readF32_showF32]; rfl
  | led =>
    rw [showData]
    split
    next hlt =>
      have hbits (n : Nat) (hn : n < 4) : readData .led [showNat (n % 2), showNat (n / 2)] = .ok (BitVec.ofNat 32 n, none) := by
        interval_cases n <;> rfl
      rw [hbits _ hlt, BitVec.ofNat_toNat, BitVec.setWidth_eq]
    next => simp only [readData, readWord_showHex]; rfl
  | nothing =>
    rw [showData]
    split
    next hzero => rw [hzero]; rfl
    next => simp only [readData, readWord_showHex]; rfl

theorem plain_showData (k : AsmKind) (d : Word) : ∀ t ∈ showData k d, Plain t := by
  cases k with
  | unsigned | stored => exact List.forall_mem_singleton.2 (plain_showNat _)
  | signed =>
    refine List.forall_mem_singleton.2 ?_
    split
    · exact Plain.cons (by decide) (plain_showNat _).2
    · exact plain_showNat _
  | float => exact List.forall_mem_singleton.2 (plain_showF32 d)
  | led =>
    rw [showData]
    split
    · exact List.forall_mem_cons.2 ⟨plain_showNat _, List.forall_mem_singleton.2 (plain_showNat _)⟩
    · exact List.forall_mem_singleton.2 (plain_showHex d)
  | nothing =>
    rw [showData]
    split
    · exact fun t ht => absurd ht List.not_mem_nil
    · exact List.forall_mem_singleton.2 (plain_showHex d)

/-! ### Commands -/

theorem assembleAll_singleton {name : Text} {ops : List Text} {c : AsmCommand} (h : assembleCommand name ops = .ok c) :
    assembleAll [(name, ops)] = .ok [c] := by
  simp only [assembleAll, h]

/-- A line with a mnemonic of the table assembles as its row does. -/
theorem assembleLine_row {r : AsmRow} {ops : List Text} {c : AsmCommand} (hr : r ∈ asmTable) (hops : ∀ t ∈ ops, Plain t)
    (h : assembleRow r ops = .ok c) : assembleLine (commandLine r.name ops) = .ok [c] := by
  rw [assembleLine_commandLine (plain_name hr) hops (expand_of_not_mem (name_not_pseudo r hr) ops)]
  apply assembleAll_singleton
  rw [assembleCommand, if_neg (name_ne_illegal r hr), find?_name r hr]
  exact h

/-- The operands of a command: the voice if its row takes one, and those of the data word. -/
def commandOperands (r : AsmRow) (cmd data : Word) : List Text :=
  (match opRow r.op with
    | some (.voice _) => [('v' :: showNat (cmdVoice cmd).toNat)]
    | _ => []) ++ showData r.kind data

theorem showInstr_eq {i : Instr} {cmd data : Word} {r : AsmRow} (hencode : encode i = (cmd, data))
    (hfind : asmTable.find? (fun r => r.op == cmdOp cmd) = some r) :
    showInstr i = commandLine r.name (commandOperands r cmd data) := by
  simp only [showInstr, hencode, hfind, commandOperands]
  rcases opRow r.op with _ | make | make <;> cases showData r.kind data <;> rfl

theorem plain_commandOperands (r : AsmRow) (cmd data : Word) : ∀ t ∈ commandOperands r cmd data, Plain t := by
  refine List.forall_mem_append.2 ⟨?_, plain_showData _ _⟩
  split
  · exact List.forall_mem_singleton.2 (Plain.cons (by decide) (plain_showNat _).2)
  · exact fun t ht => absurd ht List.not_mem_nil

section
variable {b : Backend} {cmd data : Word} {r : AsmRow}

/-- The row of a pair that decodes reads the pair's operands back: a control command has voice 0, a voice command prints its own. -/
theorem assembleRow_commandOperands (hrsv : cmdRsv cmd = 0)
    (h : (ControlOpcode (cmdOp cmd) ∧ cmdVoice cmd = 0#8) ∨ VoiceOpcode b (cmdOp cmd)) (hop : r.op = cmdOp cmd) :
    assembleRow r (commandOperands r cmd data) = .ok ⟨cmd, data, none⟩ := by
  have hword := cmdWord_fields cmd hrsv
  obtain ⟨hcontrol, hv⟩ | hvoice := h
  · obtain ⟨make, hrow, hmake⟩ := opRow_control hcontrol
    rw [hv] at hword
    simp only [assembleRow, commandOperands, hop, hrow, List.nil_append, readData_showData, Except.map, asmOf, (hmake data).2, hword]
  · obtain ⟨make, hrow, hmake⟩ := opRow_voice hvoice
    simp only [assembleRow, commandOperands, hop, hrow, List.singleton_append, readVoice_showNat, readData_showData, Except.map,
      asmOf, (hmake (cmdVoice cmd) data).2, hword]

/-- The line of a decoded command. -/
theorem assembleLine_showInstr {i : Instr} (h : decode b cmd data = .ok i) :
    assembleLine (showInstr i) = .ok [⟨cmd, data, none⟩] := by
  obtain ⟨hrsv, hop⟩ := decode_ok_checks h
  have hfamily : ControlOpcode (cmdOp cmd) ∨ VoiceOpcode .fp (cmdOp cmd) ∨ VoiceOpcode .vr (cmdOp cmd) := by
    cases b <;> tauto
  obtain ⟨r, hr, hrop, hfind⟩ := find?_op hfamily
  rw [showInstr_eq (encode_of_decode h) hfind]
  exact assembleLine_row hr (plain_commandOperands r cmd data) (assembleRow_commandOperands hrsv hop hrop)

/-- The line of a pair that does not decode. -/
theorem assembleLine_illegal (cmd data : Word) :
    assembleLine (commandLine ".illegal".toList [showHex cmd, showHex data]) = .ok [⟨cmd, data, none⟩] := by
  have hplain : Plain ".illegal".toList := ⟨by decide, List.all_eq_true.1 (by decide : ".illegal".toList.all plainChar = true)⟩
  have hops : ∀ t ∈ [showHex cmd, showHex data], Plain t :=
    List.forall_mem_cons.2 ⟨plain_showHex cmd, List.forall_mem_singleton.2 (plain_showHex data)⟩
  rw [assembleLine_commandLine hplain hops (expand_of_not_mem (by decide) _)]
  apply assembleAll_singleton
  simp only [assembleCommand, if_true, assembleRaw, readWord_showHex]

end

/-! ### The obligation -/

/-- Settles O5: name and operands come back from the printed line, each operand reads back, and the row of a decoded pair is that of
its own opcode. -/
theorem assemblerReadsDisassembly : Obligations.AssemblerReadsDisassembly := by
  intro b cmd data
  rw [disassemble]
  split
  next i hdecode => exact assembleLine_showInstr hdecode
  next => exact assembleLine_illegal cmd data

end Sys2Proof.Machine
